-- ==== Sys2Proof/Word.lean ====
section
/-! DEFINITION. The data widths of the engine (spec/00_scope.md R5, R7; 20_memory.md R50 to R53) and
the one way a register file is tabulated. -/

namespace Sys2Proof

/-- A byte: a GF256Element (R140), a PTAB entry (R28), a byte of a block or a key (R52). -/
abbrev Byte := BitVec 8

/-- A 32-bit register value (`REG_BITS`, R5), a command word (R70), an AES word (R53). -/
abbrev Word := BitVec 32

/-- A 64-bit DES block or key (`DES_BLOCK_BYTES`, `DES_KEY_BITS`, R5). -/
abbrev Block64 := BitVec 64

/-- A 48-bit DES round key (`DES_RK_BITS`, R5). -/
abbrev RoundKey := BitVec 48

/-- The register file of `n` entries whose entry `i` is `f i`. -/
def tabulate {α : Type} (n : Nat) (f : Nat → α) : Vector α n :=
  ⟨⟨(List.range n).map f⟩, by simp⟩

/-- Reading entry `i` of a tabulated file gives `f i`. -/
@[simp] theorem getElem_tabulate {α : Type} (n : Nat) (f : Nat → α) (i : Nat) (h : i < n) :
    (tabulate n f)[i] = f i := by
  simp [tabulate]

end Sys2Proof
end

