-- ==== Sys2Proof/Config.lean ====
section
/-! DEFINITION. The implementation parameters of spec/00_scope.md R5: the ones the spec fixes, with their
values, and the OPEN ones. `SBOX_AFFINE` is a type here and an argument of the machine (the field
`sboxAffine` of State); `LATENCY` is the schedule of State; `CE_BASE` and `IRQ_ROUTE` are constants without
a body, so no proof can see what they are. -/

namespace Sys2Proof

/-- The two settings of the OPEN parameter `SBOX_AFFINE` (R5, R145). -/
inductive SboxAffine where
  /-- The source's formula (the default): S-box entry = field inverse xor 0x63. -/
  | constOnly
  /-- The FIPS-197 S-box: the linear map of R145 is applied before the constant. -/
  | fips197
  deriving DecidableEq, Repr

namespace Config

/-- `ID_VALUE` (R5, R17): the ASCII bytes "AW11". -/
def idValue : Word := 0x41573131

/-- `WINDOW_BYTES` (R5, R50). -/
def windowBytes : Nat := 1024

/-- `REG_BITS` (R5): the only access width that is well-formed (R51). -/
def regBits : Nat := 32

/-- `PERM_MAX` (R5): the longest PERM table and PERM input. -/
def permMax : Nat := 64

/-- `DES_BLOCK_BYTES` (R5), which is also the DES key length in bytes (`DES_KEY_BITS` = 64). -/
def desBytes : Byte := 8

/-- `AES_BLOCK_BYTES` (R5). -/
def aesBlockBytes : Byte := 16

/-- `AES_KEY_BYTES` (R5): the legal key lengths. -/
def aesKeyBytes : List Byte := [16, 24, 32]

/-- `CE_BASE` (R5, R50), OPEN: the host bus address of offset 0x000 of the window.
A free value: it has no body, so a claim holds for every base. -/
opaque ceBase : Nat

/-- `IRQ_ROUTE` (R5, R205), OPEN: the number of the host interrupt input IRQ is wired to. A free value. -/
opaque irqInput : Nat

/-- `IRQ_ROUTE` (R5, R205), OPEN: the polarity on the wire, true when a high wire asserts. A free value. -/
opaque irqActiveHigh : Bool

/-- What a round-key index above 59 reads. A free value: it is reached only from states with
ANR = 15, which R19 excludes (ANR is 0, 10, 12 or 14), and R168 gives no meaning to it. -/
opaque awBeyond : Nat → Word

end Config

end Sys2Proof
end

