-- ==== Sys2Proof/Syntax.lean ====
section
/-! DEFINITION. The command set CE-1 (spec/00_scope.md R2): one constructor per row of
spec/opcode_table.json. A row fixes the OP byte alone (mask 0xFF, R70: "A decoder selects the command by
the OP field alone"), so every command carries the other four fields of its word (R71); whether their
values are legal is `WellFormed` and, at completion, the command's own checks (R74). -/

namespace Sys2Proof

/-- The argument fields of a command word (R71), all unsigned (R72). -/
structure Args where
  /-- A, bits 15:8: a block or key length in bytes, or the PERM table length m. -/
  a : BitVec 8
  /-- B, bits 23:16: the PERM input length n, or the AES_ARK round index. -/
  b : BitVec 8
  /-- C, bits 27:24: the PERM mode bits. -/
  c : BitVec 4
  /-- RSV, bits 31:28: must be 0. -/
  rsv : BitVec 4
  deriving DecidableEq, Repr

/-- The 23 commands, in the order of R73. -/
inductive Instr where
  | nop (f : Args)
  | srst (f : Args)
  | desKs (f : Args)
  | desEnc (f : Args)
  | desDec (f : Args)
  | desF (f : Args)
  | desS (f : Args)
  | aesKs (f : Args)
  | aesEnc (f : Args)
  | aesDec (f : Args)
  | aesSb (f : Args)
  | aesSr (f : Args)
  | aesMc (f : Args)
  | aesArk (f : Args)
  | aesIsb (f : Args)
  | aesIsr (f : Args)
  | aesImc (f : Args)
  | gfAdd (f : Args)
  | gfMul (f : Args)
  | gfInv (f : Args)
  | sbox (f : Args)
  | isbox (f : Args)
  | perm (f : Args)
  deriving DecidableEq, Repr

end Sys2Proof
end

