-- ==== Sys2Proof/WellFormed.lean ====
section
/-! DEFINITION. Which command words are legal: the field requirements of spec/30_encoding.md R74. An
ill-formed command is still decoded, accepted and completed (R190, R192): its completion ends with the
error of R74. -/

namespace Sys2Proof

namespace Args

/-- RSV must be 0 for every command (R74). -/
def rsvClear (f : Args) : Bool := f.rsv == 0
/-- A must be 0 where R74 says so. -/
def aClear (f : Args) : Bool := f.a == 0
/-- B must be 0 where R74 says so. -/
def bClear (f : Args) : Bool := f.b == 0
/-- C must be 0 where R74 says so. -/
def cClear (f : Args) : Bool := f.c == 0
/-- C[3:2] must be 0 for PERM (R74). -/
def cHighClear (f : Args) : Bool := f.c.extractLsb' 2 2 == 0
/-- A is 8: a DES block or key length (R74). -/
def aIsDes (f : Args) : Bool := f.a == 8
/-- A is 16: an AES block length (R74). -/
def aIsAesBlock (f : Args) : Bool := f.a == 16
/-- A is 16, 24 or 32: an AES key length (R74). -/
def aIsAesKey (f : Args) : Bool := f.a == 16 || f.a == 24 || f.a == 32
/-- B can be a round index 0..ANR for some ANR: ANR is at most 14 (R74, R19). -/
def bIsRound (f : Args) : Bool := f.b ≤ 14
/-- A is a PERM table length 1..64 (R74). -/
def aIsPermLength (f : Args) : Bool := 1 ≤ f.a && f.a ≤ 64
/-- B is a PERM input length 1..64 (R74). -/
def bIsPermLength (f : Args) : Bool := 1 ≤ f.b && f.b ≤ 64

/-- The commands without arguments: every field is 0 (R74). -/
def allClear (f : Args) : Bool := f.rsvClear && f.aClear && f.bClear && f.cClear

end Args

/-- R74, row by row. The bound of AES_ARK's round index by the ANR that stands at completion is the
command's own check (R181). -/
def WellFormed : Instr → Bool
  | .nop f | .srst f => f.allClear
  | .desKs f | .desEnc f | .desDec f => f.rsvClear && f.aIsDes && f.bClear && f.cClear
  | .desF f | .desS f => f.allClear
  | .aesKs f => f.rsvClear && f.aIsAesKey && f.bClear && f.cClear
  | .aesEnc f | .aesDec f => f.rsvClear && f.aIsAesBlock && f.bClear && f.cClear
  | .aesSb f | .aesSr f | .aesMc f | .aesIsb f | .aesIsr f | .aesImc f => f.allClear
  | .aesArk f => f.rsvClear && f.aClear && f.bIsRound && f.cClear
  | .gfAdd f | .gfMul f | .gfInv f | .sbox f | .isbox f => f.allClear
  | .perm f => f.rsvClear && f.aIsPermLength && f.bIsPermLength && f.cHighClear

end Sys2Proof
end

