-- ==== Sys2Proof/Decode.lean ====
section
/-! DEFINITION. The command word (spec/30_encoding.md R70 to R73): the decoder, total on all 2^32 words and
selecting by the OP field alone, and the encoder written from the same tables. -/

namespace Sys2Proof

/-- Why a word is no command: its OP is none of the 23 assigned values (R73, R76). -/
inductive DecodeError where
  /-- The OP value is unassigned. -/
  | unassignedOp (op : BitVec 8)
  deriving DecidableEq, Repr

/-- OP, bits 7:0 of a command word (R71). -/
def opField (w : Word) : BitVec 8 := w.extractLsb' 0 8

/-- The fields A, B, C and RSV of a command word (R71). -/
def argsField (w : Word) : Args where
  a := w.extractLsb' 8 8
  b := w.extractLsb' 16 8
  c := w.extractLsb' 24 4
  rsv := w.extractLsb' 28 4

/-- The opcode map of R73. -/
def commandOf (op : BitVec 8) : Option (Args → Instr) :=
  match op with
  | 0x00 => some .nop
  | 0x01 => some .srst
  | 0x10 => some .desKs
  | 0x11 => some .desEnc
  | 0x12 => some .desDec
  | 0x13 => some .desF
  | 0x14 => some .desS
  | 0x20 => some .aesKs
  | 0x21 => some .aesEnc
  | 0x22 => some .aesDec
  | 0x23 => some .aesSb
  | 0x24 => some .aesSr
  | 0x25 => some .aesMc
  | 0x26 => some .aesArk
  | 0x27 => some .aesIsb
  | 0x28 => some .aesIsr
  | 0x29 => some .aesImc
  | 0x30 => some .gfAdd
  | 0x31 => some .gfMul
  | 0x32 => some .gfInv
  | 0x33 => some .sbox
  | 0x34 => some .isbox
  | 0x40 => some .perm
  | _ => none

/-- Decoding (R70): the OP field alone selects the command, any value of the other fields is carried
along; an unassigned OP is rejected by name (R76). -/
def decode (w : Word) : Except DecodeError Instr :=
  match commandOf (opField w) with
  | some command => .ok (command (argsField w))
  | none => .error (.unassignedOp (opField w))

/-- The OP value of a command (R73). -/
def Instr.op : Instr → BitVec 8
  | .nop _ => 0x00
  | .srst _ => 0x01
  | .desKs _ => 0x10
  | .desEnc _ => 0x11
  | .desDec _ => 0x12
  | .desF _ => 0x13
  | .desS _ => 0x14
  | .aesKs _ => 0x20
  | .aesEnc _ => 0x21
  | .aesDec _ => 0x22
  | .aesSb _ => 0x23
  | .aesSr _ => 0x24
  | .aesMc _ => 0x25
  | .aesArk _ => 0x26
  | .aesIsb _ => 0x27
  | .aesIsr _ => 0x28
  | .aesImc _ => 0x29
  | .gfAdd _ => 0x30
  | .gfMul _ => 0x31
  | .gfInv _ => 0x32
  | .sbox _ => 0x33
  | .isbox _ => 0x34
  | .perm _ => 0x40

/-- The argument fields of a command. -/
def Instr.args : Instr → Args
  | .nop f | .srst f | .desKs f | .desEnc f | .desDec f | .desF f | .desS f | .aesKs f | .aesEnc f
  | .aesDec f | .aesSb f | .aesSr f | .aesMc f | .aesArk f | .aesIsb f | .aesIsr f | .aesImc f
  | .gfAdd f | .gfMul f | .gfInv f | .sbox f | .isbox f | .perm f => f

/-- The command word with the given fields, most significant first: RSV, C, B, A, OP (R71). With
`rsv = 0` it is the `encode(OP, A, B, C)` of R72. -/
def assembleWord (op : BitVec 8) (f : Args) : Word :=
  f.rsv ++ f.c ++ f.b ++ f.a ++ op

/-- The word of a command (R72). -/
def encode (i : Instr) : Word := assembleWord i.op i.args

/-- The word that `w` numbers as spec/opcode_table.json numbers bits: its low `nbits` bits, every bit
above them 0. A command is one 32-bit word (R70), so its value is the number itself. -/
def tableWord (nbits w : Nat) : Word := BitVec.ofNat 32 (w % 2 ^ nbits)

/-- The command the decoder reads from the table's word `w` of `nbits` bits. -/
def decodeTableWord (nbits w : Nat) : Option Instr :=
  match decode (tableWord nbits w) with
  | .ok i => some i
  | .error _ => none

end Sys2Proof
end

