-- ==== Sys2Proof/Machine/State.lean ====
section
/-! DEFINITION. The state of the engine as plain data: every register and file of spec/10_state.md, the
in-flight latch of R32, and the model's own inputs (the bus schedule, the last value a read returned, the
setting of the parameter SBOX_AFFINE). -/

namespace Sys2Proof.Machine

/-- The error codes of R200, by name. The codes 0x0B to 0xFF are never produced (R200), so there is no
value for them. -/
inductive ErrCode where
  | none
  | illegal
  | rsvd
  | blkLen
  | keyLen
  | noKey
  | permLen
  | permRange
  | busy
  | bus
  | argRange
  deriving DecidableEq, Repr

/-- The copy of the input registers taken when a command is accepted (R32). -/
structure Snapshot where
  din : Vector Word 4
  key : Vector Word 8
  gfA : Byte
  gfB : Byte
  pin : Vector Word 2
  ptab : Vector Word 16
  deriving DecidableEq, Repr

/-- A command in flight (R32): the accepted word and its snapshot. -/
structure InFlight where
  cmd : Word
  snap : Snapshot
  deriving DecidableEq, Repr

/-- One host access of the register window (R6, R51): its width in bits, its byte offset in the
1024-byte window (R50) and, for a write, the value presented. -/
inductive Access where
  | read (width : Nat) (off : BitVec 10)
  | write (width : Nat) (off : BitVec 10) (value : Word)
  deriving DecidableEq, Repr

/-- Whose step is next (R6, R62): the host's, with its access; the engine's completion step; or the
hardware reset (R230). -/
inductive Turn where
  | host (a : Access)
  | engine
  | reset
  deriving DecidableEq, Repr

/-- The machine. The registers are those of R16; STATUS and CTRL are held by field (R18, R19), and BUSY is
not stored a second time: it is whether `inflight` holds a command (R32). -/
structure State where
  /-- CTRL.DONE_IE (R18). -/
  doneIe : Bool
  /-- CTRL.ERR_IE (R18). -/
  errIe : Bool
  /-- STATUS.DONE (R19). -/
  done : Bool
  /-- STATUS.ERR (R19). -/
  err : Bool
  /-- STATUS.ERRCODE (R19, R200). -/
  errCode : ErrCode
  /-- STATUS.DKV (R19, R31). -/
  dkv : Bool
  /-- STATUS.AKV (R19, R31). -/
  akv : Bool
  /-- STATUS.ANR (R19). -/
  anr : BitVec 4
  /-- DIN0 to DIN3 (R22). -/
  din : Vector Word 4
  /-- DOUT0 to DOUT3 (R23). -/
  dout : Vector Word 4
  /-- KEY0 to KEY7 (R24). -/
  key : Vector Word 8
  /-- GF_A[7:0] (R25); the bits above read 0. -/
  gfA : Byte
  /-- GF_B[7:0] (R25). -/
  gfB : Byte
  /-- GF_R[7:0] (R25). -/
  gfR : Byte
  /-- PIN0 and PIN1 (R26). -/
  pin : Vector Word 2
  /-- POUT0 and POUT1 (R27). -/
  pout : Vector Word 2
  /-- PTAB0 to PTAB15 (R28). -/
  ptab : Vector Word 16
  /-- The DES round-key file (R29). -/
  drk : Vector RoundKey 16
  /-- The AES expanded-key file (R30). -/
  aw : Vector Word 60
  /-- INFLIGHT (R32). -/
  inflight : Option InFlight
  /-- MODEL: the setting of the OPEN parameter SBOX_AFFINE (R5); no step changes it. -/
  sboxAffine : SboxAffine
  /-- MODEL: the coming steps of host, engine and reset input, in the order they are taken (R62). Every
  interleaving, and so every LATENCY, is some schedule. -/
  schedule : List Turn
  /-- MODEL: the value the last host read returned on the bus (R51). -/
  rdata : Word
  deriving DecidableEq, Repr

/-- What stops the machine. -/
inductive Fault where
  /-- A command's completion was asked for while INFLIGHT is empty: the engine step is "enabled exactly
  when INFLIGHT is not empty" (R192). Raised by `exec` on a state without a command in flight, never by
  `step`. Safe: the hardware takes no such step. -/
  | engineStepNotEnabled
  deriving DecidableEq, Repr

/-- Why an instruction has no meaning. -/
inductive Refusal where
  /-- The instruction of this mnemonic has no meaning in this model. Raised only by an arm of `exec`; no
  arm raises it now. Safe: nothing can be proved of what such an instruction does. -/
  | notModelled (mnemonic : String)
  deriving DecidableEq, Repr

/-- The state after the hardware reset (R36, R230) of an engine built with the given S-box, with nothing
scheduled. -/
def State.resetWith (setting : SboxAffine) : State where
  doneIe := false
  errIe := false
  done := false
  err := false
  errCode := .none
  dkv := false
  akv := false
  anr := 0
  din := Vector.replicate 4 0
  dout := Vector.replicate 4 0
  key := Vector.replicate 8 0
  gfA := 0
  gfB := 0
  gfR := 0
  pin := Vector.replicate 2 0
  pout := Vector.replicate 2 0
  ptab := Vector.replicate 16 0
  drk := Vector.replicate 16 0
  aw := Vector.replicate 60 0
  inflight := none
  sboxAffine := setting
  schedule := []
  rdata := 0

/-- The machine right after reset, under the default setting of SBOX_AFFINE (R5). -/
def State.reset : State := State.resetWith .constOnly

end Sys2Proof.Machine
end

