-- ==== Sys2Proof/Machine/Flags.lean ====
section
/-! DEFINITION. The STATUS and CTRL registers (spec/10_state.md R18 to R20), the error codes
(spec/60_exceptions.md R200), setting and clearing DONE, ERR and ERRCODE (R203, R204), and the interrupt
output (R205). These are the engine's only flags (R35). -/

namespace Sys2Proof.Machine

/-- The code of an error as STATUS.ERRCODE shows it (R200). -/
def ErrCode.code : ErrCode → Byte
  | .none => 0x00
  | .illegal => 0x01
  | .rsvd => 0x02
  | .blkLen => 0x03
  | .keyLen => 0x04
  | .noKey => 0x05
  | .permLen => 0x06
  | .permRange => 0x07
  | .busy => 0x08
  | .bus => 0x09
  | .argRange => 0x0A

/-- STATUS.BUSY: 1 exactly when a command is in flight (R19, R32). -/
def State.busy (s : State) : Bool := s.inflight.isSome

/-- The value STATUS reads (R19), most significant first: reserved 31:20, ANR 19:16, ERRCODE 15:8,
reserved 7:5, AKV, DKV, ERR, DONE, BUSY. -/
def State.statusWord (s : State) : Word :=
  (0 : BitVec 12) ++ s.anr ++ s.errCode.code ++ (0 : BitVec 3)
    ++ BitVec.ofBool s.akv ++ BitVec.ofBool s.dkv ++ BitVec.ofBool s.err ++ BitVec.ofBool s.done
    ++ BitVec.ofBool s.busy

/-- The value CTRL reads (R18): ERR_IE in bit 1, DONE_IE in bit 0, the rest 0. -/
def State.ctrlWord (s : State) : Word :=
  (0 : BitVec 30) ++ BitVec.ofBool s.errIe ++ BitVec.ofBool s.doneIe

/-- A write of CTRL (R18): bits 0 and 1 are the enables, the rest is ignored. -/
def State.writeCtrl (s : State) (v : Word) : State :=
  { s with doneIe := v.getLsbD 0, errIe := v.getLsbD 1 }

/-- Error entry, "this and nothing more" (R203): ERR and ERRCODE are set. Nothing is saved, no mode
changes and nothing is jumped to. -/
def State.raise (s : State) (code : ErrCode) : State :=
  { s with err := true, errCode := code }

/-- Clearing an error (R204): ERR and ERRCODE go to 0. It is all there is of a return from an error. -/
def State.clearErr (s : State) : State :=
  { s with err := false, errCode := .none }

/-- Clearing DONE (R204). -/
def State.clearDone (s : State) : State :=
  { s with done := false }

/-- A write of STATUS (R20): bit 1 clears DONE, bit 2 clears ERR and ERRCODE, every other bit is
ignored. -/
def State.writeStatus (s : State) (v : Word) : State :=
  let t := if v.getLsbD 1 then s.clearDone else s
  if v.getLsbD 2 then t.clearErr else t

/-- The level of the interrupt output IRQ (R205). -/
def State.irq (s : State) : Bool := (s.doneIe && s.done) || (s.errIe && s.err)

/-- The level on the wire to the host's interrupt input `Config.irqInput`, whose polarity is the
platform's (R205, IRQ_ROUTE). -/
def State.irqWire (s : State) : Bool := s.irq == Config.irqActiveHigh

end Sys2Proof.Machine
end

