-- ==== Sys2Proof/Machine/Operands.lean ====
section
/-! DEFINITION. Where a command's operands come from: bytes of packed registers (spec/20_memory.md R52),
the blocks, keys and tables of the snapshot (spec/10_state.md R22 to R28, R32), the schedules as they stand
(R32), and the must-be-zero fields of the command word (spec/30_encoding.md R74). -/

namespace Sys2Proof.Machine

/-- Byte j of a register, byte 0 the most significant: bits [31 - 8j : 24 - 8j] (R52). -/
def wordByte (w : Word) (j : Fin 4) : Byte := w.extractLsb' (24 - 8 * j.val) 8

/-- The copy of the input registers that acceptance takes (R32, R190). -/
def State.snapshot (s : State) : Snapshot where
  din := s.din
  key := s.key
  gfA := s.gfA
  gfB := s.gfB
  pin := s.pin
  ptab := s.ptab

/-- The DES key KEY0 || KEY1 (R54, R121). -/
def Snapshot.desKey (p : Snapshot) : Block64 := p.key[0] ++ p.key[1]

/-- The DES block DIN0 || DIN1 (R54, R122). -/
def Snapshot.desBlock (p : Snapshot) : Block64 := p.din[0] ++ p.din[1]

/-- The 48-bit operand DIN2[15:0] || DIN3 of DES_F and DES_S (R125, R126). -/
def Snapshot.din48 (p : Snapshot) : RoundKey := p.din[2].extractLsb' 0 16 ++ p.din[3]

/-- The first `nk` key words KEY0 .. KEY(nk-1) (R24, R175). -/
def Snapshot.keyWords (p : Snapshot) (nk : Nat) : List Word := p.key.toList.take nk

/-- Entry e of PTAB, `PTAB(e div 4)[31-8*(e mod 4) : 24-8*(e mod 4)]` (R28). -/
def Snapshot.ptabEntry (p : Snapshot) (e : Nat) : Nat :=
  (wordByte (p.ptab[Fin.ofNat 16 (e / 4)]) (Fin.ofNat 4 (e % 4))).toNat

/-- The PERM table of m entries (R104). -/
def Snapshot.permTable (p : Snapshot) (m : Nat) : List Nat := (List.range m).map p.ptabEntry

/-- PIN0 || PIN1, whose positions 0 .. n-1 are the PERM input (R26, R104). -/
def Snapshot.permInput (p : Snapshot) : BitVec 64 := p.pin[0] ++ p.pin[1]

/-- The DES round keys in the order DRK[0] .. DRK[15] (R29). -/
def State.desSchedule (s : State) : List RoundKey := s.drk.toList

/-- Word i of the AES schedule (R30). Round keys end at word 59; what an index beyond them reads is
left open (`Config.awBeyond`). -/
def State.scheduleWord (s : State) (i : Nat) : Word :=
  if h : i < 60 then s.aw[i] else Config.awBeyond i

end Sys2Proof.Machine

namespace Sys2Proof.Args

/-- A field that a command without arguments requires to be 0 is not (R74). -/
def rsvdAll (f : Args) : Bool := f.rsv != 0 || f.a != 0 || f.b != 0 || f.c != 0

/-- RSV, B or C is not 0, for the commands whose only argument is A (R74). -/
def rsvdButA (f : Args) : Bool := f.rsv != 0 || f.b != 0 || f.c != 0

/-- RSV, A or C is not 0, for AES_ARK (R74). -/
def rsvdButB (f : Args) : Bool := f.rsv != 0 || f.a != 0 || f.c != 0

/-- RSV or C[3:2] is not 0, for PERM (R74). -/
def rsvdPerm (f : Args) : Bool := f.rsv != 0 || f.c.extractLsb' 2 2 != 0

end Sys2Proof.Args
end

