-- ==== Sys2Proof/Machine/Ops.lean ====
section
/-! DEFINITION. The named operations over the registers: the address map of the window
(spec/10_state.md R16), reading and writing a register (R17 to R30, spec/20_memory.md R56, R57), accepting
and rejecting a command (spec/44_system.md R190, R191), and ending the command in flight, with an error or
with its register writes (R192, spec/60_exceptions.md R201). -/

namespace Sys2Proof.Machine

/-- The registers of the window, by name (R16). -/
inductive Reg where
  | id
  | ctrl
  | status
  | cmd
  | din (i : Fin 4)
  | dout (i : Fin 4)
  | key (i : Fin 8)
  | gfA
  | gfB
  | gfR
  | pin (i : Fin 2)
  | pout (i : Fin 2)
  | ptab (i : Fin 16)
  | drkHi (i : Fin 16)
  | drkLo (i : Fin 16)
  | aw (i : Fin 60)
  | reserved
  deriving DecidableEq, Repr

/-- The register at a byte offset that is a multiple of 4 (R16). -/
def regAt (off : BitVec 10) : Reg :=
  let o := off.toNat
  if o < 0x010 then
    if o = 0x000 then .id else if o = 0x004 then .ctrl else if o = 0x008 then .status else .cmd
  else if o < 0x020 then .reserved
  else if o < 0x030 then .din (Fin.ofNat 4 ((o - 0x020) / 4))
  else if o < 0x040 then .dout (Fin.ofNat 4 ((o - 0x030) / 4))
  else if o < 0x060 then .key (Fin.ofNat 8 ((o - 0x040) / 4))
  else if o < 0x070 then
    if o = 0x060 then .gfA else if o = 0x064 then .gfB else if o = 0x068 then .gfR else .reserved
  else if o < 0x078 then .pin (Fin.ofNat 2 ((o - 0x070) / 4))
  else if o < 0x080 then .pout (Fin.ofNat 2 ((o - 0x078) / 4))
  else if o < 0x0C0 then .ptab (Fin.ofNat 16 ((o - 0x080) / 4))
  else if o < 0x100 then .reserved
  else if o < 0x180 then
    if o % 8 = 0 then .drkHi (Fin.ofNat 16 ((o - 0x100) / 8))
    else .drkLo (Fin.ofNat 16 ((o - 0x100) / 8))
  else if o < 0x200 then .reserved
  else if o < 0x2F0 then .aw (Fin.ofNat 60 ((o - 0x200) / 4))
  else .reserved

/-- What a register reads (R17 to R30): CMD and the reserved offsets read 0, the 8- and 16-bit fields
read with zeros above them. A read has no side effect (R59). -/
def State.readReg (s : State) : Reg → Word
  | .id => Config.idValue
  | .ctrl => s.ctrlWord
  | .status => s.statusWord
  | .cmd => 0
  | .din i => s.din[i]
  | .dout i => s.dout[i]
  | .key i => s.key[i]
  | .gfA => s.gfA.setWidth 32
  | .gfB => s.gfB.setWidth 32
  | .gfR => s.gfR.setWidth 32
  | .pin i => s.pin[i]
  | .pout i => s.pout[i]
  | .ptab i => s.ptab[i]
  | .drkHi i => (s.drk[i].extractLsb' 32 16).setWidth 32
  | .drkLo i => s.drk[i].extractLsb' 0 32
  | .aw i => s.aw[i]
  | .reserved => 0

/-- Acceptance of a command word (R190): the snapshot and the word go into the latch, DONE, ERR and
ERRCODE are cleared, nothing else changes. -/
def State.accept (s : State) (v : Word) : State :=
  { s with inflight := some ⟨v, s.snapshot⟩, done := false, err := false, errCode := .none }

/-- A write to CMD: accepted while BUSY is 0 (R190), else rejected with the BUSY error, the word being
discarded (R191). -/
def State.writeCmd (s : State) (v : Word) : State :=
  if s.busy then s.raise .busy else s.accept v

/-- A write to a register: an RW register takes the value, STATUS and CMD act as R20 and R21 say,
read-only registers and reserved offsets ignore it (R56, R57). -/
def State.writeReg (s : State) (r : Reg) (v : Word) : State :=
  match r with
  | .ctrl => s.writeCtrl v
  | .status => s.writeStatus v
  | .cmd => s.writeCmd v
  | .din i => { s with din := s.din.set i v }
  | .key i => { s with key := s.key.set i v }
  | .gfA => { s with gfA := v.extractLsb' 0 8 }
  | .gfB => { s with gfB := v.extractLsb' 0 8 }
  | .pin i => { s with pin := s.pin.set i v }
  | .ptab i => { s with ptab := s.ptab.set i v }
  | .id | .dout _ | .gfR | .pout _ | .drkHi _ | .drkLo _ | .aw _ | .reserved => s

/-- The result of AES and DES block commands goes to DOUT0 to DOUT3 (R23). -/
def State.setDout (s : State) (q : Vector Word 4) : State := { s with dout := q }

/-- The result of a GF command goes to GF_R (R25). -/
def State.setGfR (s : State) (x : Byte) : State := { s with gfR := x }

/-- The 64 bits of a PERM result go to POUT0 || POUT1 (R27). -/
def State.setPout (s : State) (y : BitVec 64) : State :=
  { s with pout := #v[y.extractLsb' 32 32, y.extractLsb' 0 32] }

/-- A new DES schedule (R121): the round keys, and DKV. -/
def State.setDesSchedule (s : State) (k : Vector RoundKey 16) : State := { s with drk := k, dkv := true }

/-- A new AES schedule (R175): the expanded words, AKV and the round count. -/
def State.setAesSchedule (s : State) (w : Vector Word 60) (nr : BitVec 4) : State :=
  { s with aw := w, akv := true, anr := nr }

/-- Every register and file at its reset value (R36, R230): what the hardware reset does, and SRST before
it sets DONE (R194). The parameter SBOX_AFFINE, the coming schedule and the last value the bus returned are
no registers of the engine and stay. -/
def State.resetRegisters (s : State) : State :=
  { State.resetWith s.sboxAffine with schedule := s.schedule, rdata := s.rdata }

/-- The end of the command in flight (R192): an error records its code and writes nothing else (R201);
a success performs its register writes and sets DONE. Either way the latch is emptied, so BUSY
reads 0. -/
def State.finish (s : State) : Except ErrCode State → State
  | .error code => { s.raise code with inflight := none }
  | .ok written => { written with done := true, inflight := none }

/-- The engine's completion step for a command whose pseudocode is `body`: it runs on the snapshot of the
command in flight and answers the state with its register writes, or the error it raises first
(R192). It is not enabled without a command in flight. -/
def complete (s : State) (body : Snapshot → Except ErrCode State) :
    Host.Outcome State Fault Refusal :=
  match s.inflight with
  | some f => .next (s.finish (body f.snap))
  | none => .fault .engineStepNotEnabled

end Sys2Proof.Machine
end

