-- ==== Sys2Proof/Machine/BitPerm.lean ====
section
/-! DEFINITION. The BitPermutation unit and the command PERM (spec/40_bitperm.md R100 to R105). -/

namespace Sys2Proof.Machine

/-- Whether table entries count from 1 or from 0 (R100). -/
inductive Base where
  | base1
  | base0
  deriving DecidableEq, Repr

/-- Whether an index counts from the first or from the last bit of the input (R100). -/
inductive Dir where
  | asc
  | desc
  deriving DecidableEq, Repr

/-- The index k0 of a table entry (R100); none where it would be -1. -/
def entryIndex (base : Base) (t : Nat) : Option Nat :=
  match base with
  | .base1 => if t = 0 then none else some (t - 1)
  | .base0 => some t

/-- The input position a table entry selects for an input of n bits, or none where the entry is out of
range (R100). -/
def sourcePos (n : Nat) (base : Base) (dir : Dir) (t : Nat) : Option Nat :=
  match entryIndex base t with
  | none => none
  | some k0 =>
    if k0 < n then
      some (match dir with
        | .asc => k0
        | .desc => n - 1 - k0)
    else none

/-- `permute` (R100): the output bits, in order of their positions, or none for PERMRANGE if any entry
is out of range (R103). The input is positions 0 .. n-1 of `x`. -/
def permute (table : List Nat) {w : Nat} (x : BitVec w) (n : Nat) (base : Base) (dir : Dir) :
    Option (List Bool) :=
  match table with
  | [] => some []
  | t :: ts =>
    match sourcePos n base dir t, permute ts x n base dir with
    | some s, some ys => some (x.getMsbD s :: ys)
    | _, _ => none

/-- The number a bit string stands for, position 0 the most significant (R8). -/
def bitNumber (ys : List Bool) : Nat := ys.foldl (fun v y => 2 * v + Bool.toNat y) 0

/-- A bit string as a register value of w bits (R8). -/
def bitString (w : Nat) (ys : List Bool) : BitVec w := BitVec.ofNat w (bitNumber ys)

/-- `perm(T, X)` for the fixed DES tables: permute with base1 and asc, m output bits (R105, "Every entry
of those tables is in range for the input it is applied to"). -/
def perm (m : Nat) (table : List Nat) {n : Nat} (x : BitVec n) : BitVec m :=
  bitString m ((permute table x n .base1 .asc).getD [])

/-- BASE is C[0] (R104). -/
def permBase (f : Args) : Base := if f.c.getLsbD 0 then .base0 else .base1

/-- DIR is C[1] (R104). -/
def permDir (f : Args) : Dir := if f.c.getLsbD 1 then .desc else .asc

/-- A PERM length is out of 1 .. PERM_MAX (R104). -/
def permLenBad (x : Byte) : Bool := x.toNat == 0 || Config.permMax < x.toNat

/-- The result register value Y || 0^(64 - m) (R104). -/
def permResult (ys : List Bool) : BitVec 64 :=
  bitString 64 (ys ++ List.replicate (64 - ys.length) false)

/-- PERM (R104). -/
def execPerm (f : Args) (s : State) : Host.Outcome State Fault Refusal :=
  complete s fun p =>
    if f.rsvdPerm then .error .rsvd
    else if permLenBad f.a || permLenBad f.b then .error .permLen
    else
      match permute (p.permTable f.a.toNat) p.permInput f.b.toNat (permBase f) (permDir f) with
      | none => .error .permRange
      | some ys => .ok (s.setPout (permResult ys))

end Sys2Proof.Machine
end

