-- ==== Sys2Proof/Machine/Feistel.lean ====
section
/-! DEFINITION. The Feistel cipher and its commands (spec/41_feistel.md R117 to R126). -/

namespace Sys2Proof.Machine

/-- One DES S-box: the row is the outer bits b1 b6, the column the middle bits b2 .. b5 (R117). -/
def desSbox (rows : List (List Nat)) (x : BitVec 6) : BitVec 4 :=
  let row := 2 * (x.getMsbD 0).toNat + (x.getMsbD 5).toNat
  let col := (x.extractLsb' 1 4).toNat
  BitVec.ofNat 4 ((rows.getD row []).getD col 0)

/-- The six bits X<6j .. 6j+5> of a 48-bit string (R117). -/
def sixBits (x : BitVec 48) (j : Nat) : BitVec 6 := x.extractLsb' (42 - 6 * j) 6

/-- The substitution layer (R117). -/
def sLayer (x : BitVec 48) : Word :=
  desSbox s1Box (sixBits x 0) ++ desSbox s2Box (sixBits x 1) ++ desSbox s3Box (sixBits x 2)
    ++ desSbox s4Box (sixBits x 3) ++ desSbox s5Box (sixBits x 4) ++ desSbox s6Box (sixBits x 5)
    ++ desSbox s7Box (sixBits x 6) ++ desSbox s8Box (sixBits x 7)

/-- The f-function (R119). -/
def feistelF (r : Word) (k : RoundKey) : Word := perm 32 pTable (sLayer (perm 48 eTable r ^^^ k))

/-- The round keys of the rounds whose rotation amounts are given, from the halves C and D (R118). -/
def roundKeysFrom : List Nat → BitVec 28 → BitVec 28 → List RoundKey
  | [], _, _ => []
  | n :: ns, c, d =>
    let c' := c.rotateLeft n
    let d' := d.rotateLeft n
    perm 48 pc2Table (c' ++ d') :: roundKeysFrom ns c' d'

/-- The key schedule `des_ks` (R118). -/
def desKeySchedule (k : Block64) : List RoundKey :=
  let cd := perm 56 pc1Table k
  roundKeysFrom shifts (cd.extractLsb' 28 28) (cd.extractLsb' 0 28)

/-- One round on the halves (L, R) (R120). -/
def desRound (lr : Word × Word) (k : RoundKey) : Word × Word := (lr.2, lr.1 ^^^ feistelF lr.2 k)

/-- The rounds and the swap: the halves after all rounds, R first (R120). -/
def desRounds (x : Block64) (ks : List RoundKey) : Block64 :=
  let lr := ks.foldl desRound (x.extractLsb' 32 32, x.extractLsb' 0 32)
  lr.2 ++ lr.1

/-- The block transform `process` (R120). -/
def desProcess (b : Block64) (ks : List RoundKey) : Block64 :=
  perm 64 ipInvTable (desRounds (perm 64 ipTable b) ks)

/-- An 8-byte result in DOUT0 and DOUT1, 0 in DOUT2 and DOUT3 (R122, R123). -/
def dout64 (y : Block64) : Vector Word 4 := #v[y.extractLsb' 32 32, y.extractLsb' 0 32, 0, 0]

/-- A 4-byte result in DOUT0, 0 in DOUT1 to DOUT3 (R125, R126). -/
def dout32 (y : Word) : Vector Word 4 := #v[y, 0, 0, 0]

/-- DES_KS (R121). -/
def execDesKs (f : Args) (s : State) : Host.Outcome State Fault Refusal :=
  complete s fun p =>
    if f.rsvdButA then .error .rsvd
    else if f.a != Config.desBytes then .error .keyLen
    else .ok (s.setDesSchedule (tabulate 16 fun i => (desKeySchedule p.desKey).getD i 0))

/-- The checks and the effect that DES_ENC and DES_DEC share (R122, R123): the block is transformed under
the given sequence of round keys. -/
def desCipher (f : Args) (s : State) (keys : List RoundKey) : Host.Outcome State Fault Refusal :=
  complete s fun p =>
    if f.rsvdButA then .error .rsvd
    else if f.a != Config.desBytes then .error .blkLen
    else if !s.dkv then .error .noKey
    else .ok (s.setDout (dout64 (desProcess p.desBlock keys)))

/-- DES_ENC (R122): the round keys in order. -/
def execDesEnc (f : Args) (s : State) : Host.Outcome State Fault Refusal :=
  desCipher f s s.desSchedule

/-- DES_DEC (R123): the round keys in reverse order. -/
def execDesDec (f : Args) (s : State) : Host.Outcome State Fault Refusal :=
  desCipher f s s.desSchedule.reverse

/-- DES_F (R125). -/
def execDesF (f : Args) (s : State) : Host.Outcome State Fault Refusal :=
  complete s fun p =>
    if f.rsvdAll then .error .rsvd
    else .ok (s.setDout (dout32 (feistelF p.din[0] p.din48)))

/-- DES_S (R126). -/
def execDesS (f : Args) (s : State) : Host.Outcome State Fault Refusal :=
  complete s fun p =>
    if f.rsvdAll then .error .rsvd
    else .ok (s.setDout (dout32 (sLayer p.din48)))

end Sys2Proof.Machine
end

