-- ==== Sys2Proof/Machine/SboxTables.lean ====
section
/-! DEFINITION. The S-box and inverse S-box tables of spec/42_gf256.md section 4, under both settings of
SBOX_AFFINE (R145, R146): row h, column l holds the entry of index 16 h + l. They are read-only and
present from reset (R33). -/

namespace Sys2Proof.Machine

/-- SBOX under CONST_ONLY (R145). -/
def sboxConstOnly : List (List Nat) := [
  [0x63, 0x62, 0xEE, 0x95, 0xA8, 0x31, 0x18, 0xB2, 0x8B, 0x2C, 0x4A, 0xA3, 0xD3, 0x82, 0x86, 0xA4],
  [0x17, 0xD7, 0xC9, 0x28, 0xFA, 0x48, 0x03, 0x3C, 0x3B, 0x5C, 0x9E, 0xAF, 0x9C, 0x23, 0x8D, 0xD1],
  [0x59, 0x0D, 0x39, 0x92, 0x36, 0x2E, 0xCB, 0xAA, 0xA2, 0x69, 0xFB, 0x76, 0x53, 0x27, 0xC1, 0xA1],
  [0x4F, 0x26, 0xF1, 0x0F, 0x90, 0x5A, 0x05, 0x21, 0x91, 0x56, 0x43, 0x0C, 0x14, 0xD8, 0x3A, 0x7A],
  [0x7E, 0x9D, 0x54, 0x04, 0x4E, 0x52, 0x96, 0x0A, 0xC4, 0x07, 0xC8, 0x70, 0x37, 0x46, 0x8A, 0x6A],
  [0x8E, 0x3F, 0x66, 0xA9, 0x2F, 0x47, 0xE4, 0xDC, 0x7B, 0x5D, 0x41, 0x93, 0x32, 0x8F, 0x02, 0x74],
  [0x75, 0x3D, 0xCC, 0xB0, 0x2A, 0xC5, 0x55, 0x20, 0x97, 0x24, 0xF2, 0xBC, 0x50, 0xF0, 0x42, 0x58],
  [0x1A, 0xD4, 0xF4, 0xE6, 0x73, 0xD6, 0xD9, 0x5F, 0xD5, 0x13, 0xB3, 0x65, 0xC2, 0x99, 0xE2, 0xE1],
  [0xE0, 0x1D, 0x1C, 0xE3, 0xF5, 0x10, 0xDD, 0x35, 0xF8, 0xFD, 0xF6, 0xBA, 0x94, 0x61, 0xDA, 0xC7],
  [0xBD, 0x09, 0x51, 0x0E, 0xBB, 0xE9, 0xE7, 0x11, 0x49, 0x77, 0xFC, 0xEB, 0x9A, 0xBF, 0xEA, 0xF9],
  [0x98, 0x1F, 0x4D, 0xA0, 0xEC, 0xDB, 0x06, 0x2B, 0x45, 0xAB, 0x71, 0x29, 0xAD, 0x84, 0xB1, 0x01],
  [0x6F, 0x83, 0x7C, 0x8C, 0x72, 0x16, 0x1B, 0x12, 0xC6, 0xED, 0x15, 0x5E, 0xDE, 0xDF, 0xE5, 0x34],
  [0x68, 0x4B, 0x4C, 0xC0, 0xB9, 0xB7, 0x87, 0x6C, 0xCA, 0x44, 0x30, 0x67, 0x78, 0x9F, 0xCF, 0x85],
  [0x19, 0x64, 0xCD, 0x00, 0xA6, 0xB8, 0x81, 0x89, 0xF7, 0xE8, 0xA7, 0xB6, 0xFE, 0x9B, 0xF3, 0x08],
  [0xD2, 0x6E, 0xB5, 0x88, 0xA5, 0x6D, 0xAC, 0xCE, 0x6B, 0x2D, 0xB4, 0x80, 0x3E, 0x33, 0x7D, 0xD0],
  [0x38, 0x40, 0x5B, 0x57, 0x0B, 0x25, 0x60, 0xEF, 0xBE, 0xFF, 0x1E, 0xC3, 0xAE, 0x79, 0x22, 0x7F]]

/-- ISBOX under CONST_ONLY (R146). -/
def isboxConstOnly : List (List Nat) := [
  [0xD3, 0xAF, 0x5E, 0x16, 0x43, 0x36, 0xA6, 0x49, 0xDF, 0x91, 0x47, 0xF4, 0x3B, 0x21, 0x93, 0x33],
  [0x85, 0x97, 0xB7, 0x79, 0x3C, 0xBA, 0xB5, 0x10, 0x06, 0xD0, 0x70, 0xB6, 0x82, 0x81, 0xFA, 0xA1],
  [0x67, 0x37, 0xFE, 0x1D, 0x69, 0xF5, 0x31, 0x2D, 0x13, 0xAB, 0x64, 0xA7, 0x09, 0xE9, 0x25, 0x54],
  [0xCA, 0x05, 0x5C, 0xED, 0xBF, 0x87, 0x24, 0x4C, 0xF0, 0x22, 0x3E, 0x18, 0x17, 0x61, 0xEC, 0x51],
  [0xF1, 0x5A, 0x6E, 0x3A, 0xC9, 0xA8, 0x4D, 0x55, 0x15, 0x98, 0x0A, 0xC1, 0xC2, 0xA2, 0x44, 0x30],
  [0x6C, 0x92, 0x45, 0x2C, 0x42, 0x66, 0x39, 0xF3, 0x6F, 0x20, 0x35, 0xF2, 0x19, 0x59, 0xBB, 0x77],
  [0xF6, 0x8D, 0x01, 0x00, 0xD1, 0x7B, 0x52, 0xCB, 0xC0, 0x29, 0x4F, 0xE8, 0xC7, 0xE5, 0xE1, 0xB0],
  [0x4B, 0xAA, 0xB4, 0x74, 0x5F, 0x60, 0x2B, 0x99, 0xCC, 0xFD, 0x3F, 0x58, 0xB2, 0xEE, 0x40, 0xFF],
  [0xEB, 0xD6, 0x0D, 0xB1, 0xAD, 0xCF, 0x0E, 0xC6, 0xE3, 0xD7, 0x4E, 0x08, 0xB3, 0x1E, 0x50, 0x5D],
  [0x34, 0x38, 0x23, 0x5B, 0x8C, 0x03, 0x46, 0x68, 0xA0, 0x7D, 0x9C, 0xDD, 0x1C, 0x41, 0x1A, 0xCD],
  [0xA3, 0x2F, 0x28, 0x0B, 0x0F, 0xE4, 0xD4, 0xDA, 0x04, 0x53, 0x27, 0xA9, 0xE6, 0xAC, 0xFC, 0x1B],
  [0x63, 0xAE, 0x07, 0x7A, 0xEA, 0xE2, 0xDB, 0xC5, 0xD5, 0xC4, 0x8B, 0x94, 0x6B, 0x90, 0xF8, 0x9D],
  [0xC3, 0x2E, 0x7C, 0xFB, 0x48, 0x65, 0xB8, 0x8F, 0x4A, 0x12, 0xC8, 0x26, 0x62, 0xD2, 0xE7, 0xCE],
  [0xEF, 0x1F, 0xE0, 0x0C, 0x71, 0x78, 0x75, 0x11, 0x3D, 0x76, 0x8E, 0xA5, 0x57, 0x86, 0xBC, 0xBD],
  [0x80, 0x7F, 0x7E, 0x83, 0x56, 0xBE, 0x73, 0x96, 0xD9, 0x95, 0x9E, 0x9B, 0xA4, 0xB9, 0x02, 0xF7],
  [0x6D, 0x32, 0x6A, 0xDE, 0x72, 0x84, 0x8A, 0xD8, 0x88, 0x9F, 0x14, 0x2A, 0x9A, 0x89, 0xDC, 0xF9]]

/-- SBOX under FIPS197 (R145). -/
def sboxFips197 : List (List Nat) := [
  [0x63, 0x7C, 0x77, 0x7B, 0xF2, 0x6B, 0x6F, 0xC5, 0x30, 0x01, 0x67, 0x2B, 0xFE, 0xD7, 0xAB, 0x76],
  [0xCA, 0x82, 0xC9, 0x7D, 0xFA, 0x59, 0x47, 0xF0, 0xAD, 0xD4, 0xA2, 0xAF, 0x9C, 0xA4, 0x72, 0xC0],
  [0xB7, 0xFD, 0x93, 0x26, 0x36, 0x3F, 0xF7, 0xCC, 0x34, 0xA5, 0xE5, 0xF1, 0x71, 0xD8, 0x31, 0x15],
  [0x04, 0xC7, 0x23, 0xC3, 0x18, 0x96, 0x05, 0x9A, 0x07, 0x12, 0x80, 0xE2, 0xEB, 0x27, 0xB2, 0x75],
  [0x09, 0x83, 0x2C, 0x1A, 0x1B, 0x6E, 0x5A, 0xA0, 0x52, 0x3B, 0xD6, 0xB3, 0x29, 0xE3, 0x2F, 0x84],
  [0x53, 0xD1, 0x00, 0xED, 0x20, 0xFC, 0xB1, 0x5B, 0x6A, 0xCB, 0xBE, 0x39, 0x4A, 0x4C, 0x58, 0xCF],
  [0xD0, 0xEF, 0xAA, 0xFB, 0x43, 0x4D, 0x33, 0x85, 0x45, 0xF9, 0x02, 0x7F, 0x50, 0x3C, 0x9F, 0xA8],
  [0x51, 0xA3, 0x40, 0x8F, 0x92, 0x9D, 0x38, 0xF5, 0xBC, 0xB6, 0xDA, 0x21, 0x10, 0xFF, 0xF3, 0xD2],
  [0xCD, 0x0C, 0x13, 0xEC, 0x5F, 0x97, 0x44, 0x17, 0xC4, 0xA7, 0x7E, 0x3D, 0x64, 0x5D, 0x19, 0x73],
  [0x60, 0x81, 0x4F, 0xDC, 0x22, 0x2A, 0x90, 0x88, 0x46, 0xEE, 0xB8, 0x14, 0xDE, 0x5E, 0x0B, 0xDB],
  [0xE0, 0x32, 0x3A, 0x0A, 0x49, 0x06, 0x24, 0x5C, 0xC2, 0xD3, 0xAC, 0x62, 0x91, 0x95, 0xE4, 0x79],
  [0xE7, 0xC8, 0x37, 0x6D, 0x8D, 0xD5, 0x4E, 0xA9, 0x6C, 0x56, 0xF4, 0xEA, 0x65, 0x7A, 0xAE, 0x08],
  [0xBA, 0x78, 0x25, 0x2E, 0x1C, 0xA6, 0xB4, 0xC6, 0xE8, 0xDD, 0x74, 0x1F, 0x4B, 0xBD, 0x8B, 0x8A],
  [0x70, 0x3E, 0xB5, 0x66, 0x48, 0x03, 0xF6, 0x0E, 0x61, 0x35, 0x57, 0xB9, 0x86, 0xC1, 0x1D, 0x9E],
  [0xE1, 0xF8, 0x98, 0x11, 0x69, 0xD9, 0x8E, 0x94, 0x9B, 0x1E, 0x87, 0xE9, 0xCE, 0x55, 0x28, 0xDF],
  [0x8C, 0xA1, 0x89, 0x0D, 0xBF, 0xE6, 0x42, 0x68, 0x41, 0x99, 0x2D, 0x0F, 0xB0, 0x54, 0xBB, 0x16]]

/-- ISBOX under FIPS197 (R146). -/
def isboxFips197 : List (List Nat) := [
  [0x52, 0x09, 0x6A, 0xD5, 0x30, 0x36, 0xA5, 0x38, 0xBF, 0x40, 0xA3, 0x9E, 0x81, 0xF3, 0xD7, 0xFB],
  [0x7C, 0xE3, 0x39, 0x82, 0x9B, 0x2F, 0xFF, 0x87, 0x34, 0x8E, 0x43, 0x44, 0xC4, 0xDE, 0xE9, 0xCB],
  [0x54, 0x7B, 0x94, 0x32, 0xA6, 0xC2, 0x23, 0x3D, 0xEE, 0x4C, 0x95, 0x0B, 0x42, 0xFA, 0xC3, 0x4E],
  [0x08, 0x2E, 0xA1, 0x66, 0x28, 0xD9, 0x24, 0xB2, 0x76, 0x5B, 0xA2, 0x49, 0x6D, 0x8B, 0xD1, 0x25],
  [0x72, 0xF8, 0xF6, 0x64, 0x86, 0x68, 0x98, 0x16, 0xD4, 0xA4, 0x5C, 0xCC, 0x5D, 0x65, 0xB6, 0x92],
  [0x6C, 0x70, 0x48, 0x50, 0xFD, 0xED, 0xB9, 0xDA, 0x5E, 0x15, 0x46, 0x57, 0xA7, 0x8D, 0x9D, 0x84],
  [0x90, 0xD8, 0xAB, 0x00, 0x8C, 0xBC, 0xD3, 0x0A, 0xF7, 0xE4, 0x58, 0x05, 0xB8, 0xB3, 0x45, 0x06],
  [0xD0, 0x2C, 0x1E, 0x8F, 0xCA, 0x3F, 0x0F, 0x02, 0xC1, 0xAF, 0xBD, 0x03, 0x01, 0x13, 0x8A, 0x6B],
  [0x3A, 0x91, 0x11, 0x41, 0x4F, 0x67, 0xDC, 0xEA, 0x97, 0xF2, 0xCF, 0xCE, 0xF0, 0xB4, 0xE6, 0x73],
  [0x96, 0xAC, 0x74, 0x22, 0xE7, 0xAD, 0x35, 0x85, 0xE2, 0xF9, 0x37, 0xE8, 0x1C, 0x75, 0xDF, 0x6E],
  [0x47, 0xF1, 0x1A, 0x71, 0x1D, 0x29, 0xC5, 0x89, 0x6F, 0xB7, 0x62, 0x0E, 0xAA, 0x18, 0xBE, 0x1B],
  [0xFC, 0x56, 0x3E, 0x4B, 0xC6, 0xD2, 0x79, 0x20, 0x9A, 0xDB, 0xC0, 0xFE, 0x78, 0xCD, 0x5A, 0xF4],
  [0x1F, 0xDD, 0xA8, 0x33, 0x88, 0x07, 0xC7, 0x31, 0xB1, 0x12, 0x10, 0x59, 0x27, 0x80, 0xEC, 0x5F],
  [0x60, 0x51, 0x7F, 0xA9, 0x19, 0xB5, 0x4A, 0x0D, 0x2D, 0xE5, 0x7A, 0x9F, 0x93, 0xC9, 0x9C, 0xEF],
  [0xA0, 0xE0, 0x3B, 0x4D, 0xAE, 0x2A, 0xF5, 0xB0, 0xC8, 0xEB, 0xBB, 0x3C, 0x83, 0x53, 0x99, 0x61],
  [0x17, 0x2B, 0x04, 0x7E, 0xBA, 0x77, 0xD6, 0x26, 0xE1, 0x69, 0x14, 0x63, 0x55, 0x21, 0x0C, 0x7D]]

end Sys2Proof.Machine
end

