-- ==== Sys2Proof/Machine/Gf256.lean ====
section
/-! DEFINITION. Arithmetic in GF(2^8), the S-box and the GF commands (spec/42_gf256.md R140 to R154). -/

namespace Sys2Proof.Machine

/-- `gadd` (R141). -/
def gadd (a b : Byte) : Byte := a ^^^ b

/-- The running multiple of R142: a << 1, reduced by GF_POLY = 0x11B where it overflows 8 bits. -/
def gdouble (a : Byte) : Byte :=
  let d : BitVec 9 := a.setWidth 9 <<< 1
  (if d.getLsbD 8 then d ^^^ 0x11B else d).setWidth 8

/-- The loop of R142 with `n` passes left: product so far, running multiple, multiplier. -/
def gmulLoop : Nat → Byte → Byte → Byte → Byte
  | 0, p, _, _ => p
  | n + 1, p, a, b => gmulLoop n (if b.getLsbD 0 then p ^^^ a else p) (gdouble a) (b >>> 1)

/-- `gmul` (R142). -/
def gmul (a b : Byte) : Byte := gmulLoop 8 0 a b

/-- The search of R143: the first b among `n` candidates from `b` on with gmul(a, b) = 1. -/
def ginvFrom : Nat → Byte → Byte → Byte
  | 0, _, _ => 0
  | n + 1, a, b => if gmul a b = 1 then b else ginvFrom n a (b + 1)

/-- `ginv` (R143): 0 for 0, else the b in 1 .. 255 with gmul(a, b) = 1, tried in order. -/
def ginv (a : Byte) : Byte := if a = 0 then 0 else ginvFrom 255 a 1

/-- The linear map A of R145. -/
def affineMap (y : Byte) : Byte :=
  y ^^^ y.rotateLeft 1 ^^^ y.rotateLeft 2 ^^^ y.rotateLeft 3 ^^^ y.rotateLeft 4

/-- Entry 16 h + l of a table of sixteen rows of sixteen bytes. -/
def byteTable (rows : List (List Nat)) (x : Byte) : Byte :=
  BitVec.ofNat 8 ((rows.getD (x.toNat / 16) []).getD (x.toNat % 16) 0)

/-- SBOX[x] (R145): the table of section 4 for the setting. -/
def sboxOf (setting : SboxAffine) (x : Byte) : Byte :=
  match setting with
  | .constOnly => byteTable sboxConstOnly x
  | .fips197 => byteTable sboxFips197 x

/-- ISBOX[x] (R146): the table of section 4 for the setting. -/
def isboxOf (setting : SboxAffine) (x : Byte) : Byte :=
  match setting with
  | .constOnly => byteTable isboxConstOnly x
  | .fips197 => byteTable isboxFips197 x

/-- What the GF commands share (section 3): no arguments, and a result computed from the snapshot that
goes to GF_R. -/
def gfCommand (f : Args) (s : State) (result : Snapshot → Byte) : Host.Outcome State Fault Refusal :=
  complete s fun p => if f.rsvdAll then .error .rsvd else .ok (s.setGfR (result p))

/-- GF_ADD (R150). -/
def execGfAdd (f : Args) (s : State) : Host.Outcome State Fault Refusal :=
  gfCommand f s fun p => gadd p.gfA p.gfB

/-- GF_MUL (R151). -/
def execGfMul (f : Args) (s : State) : Host.Outcome State Fault Refusal :=
  gfCommand f s fun p => gmul p.gfA p.gfB

/-- GF_INV (R152). -/
def execGfInv (f : Args) (s : State) : Host.Outcome State Fault Refusal :=
  gfCommand f s fun p => ginv p.gfA

/-- SBOX (R153). -/
def execSbox (f : Args) (s : State) : Host.Outcome State Fault Refusal :=
  gfCommand f s fun p => sboxOf s.sboxAffine p.gfA

/-- ISBOX (R154). -/
def execIsbox (f : Args) (s : State) : Host.Outcome State Fault Refusal :=
  gfCommand f s fun p => isboxOf s.sboxAffine p.gfA

end Sys2Proof.Machine
end

