-- ==== Sys2Proof/Machine/Spn.lean ====
section
/-! DEFINITION. The SP-network cipher and its commands (spec/43_spn.md R160 to R184). -/

namespace Sys2Proof.Machine

/-- Four like things, numbered 0 to 3. -/
structure Quad (α : Type) where
  e0 : α
  e1 : α
  e2 : α
  e3 : α
  deriving DecidableEq, Repr

/-- Item i of four. -/
def Quad.get {α : Type} (q : Quad α) (i : Fin 4) : α :=
  match i with
  | 0 => q.e0
  | 1 => q.e1
  | 2 => q.e2
  | 3 => q.e3

/-- The four items that `f` gives. -/
def Quad.of {α : Type} (f : Fin 4 → α) : Quad α := ⟨f 0, f 1, f 2, f 3⟩

/-- The 4×4 byte matrix of R160, by rows. -/
abbrev CipherState := Quad (Quad Byte)

/-- s[r][c] (R160). -/
def cell (m : CipherState) (r c : Fin 4) : Byte := (m.get r).get c

/-- The matrix whose entry in row r, column c is `f r c`. -/
def matrix (f : Fin 4 → Fin 4 → Byte) : CipherState := Quad.of fun r => Quad.of fun c => f r c

/-- `to_state` (R160): s[r][c] is byte r of register Q_c. -/
def toState (q : Vector Word 4) : CipherState := matrix fun r c => wordByte q[c] r

/-- Column c as a word (R53). -/
def column (m : CipherState) (c : Fin 4) : Word := cell m 0 c ++ cell m 1 c ++ cell m 2 c ++ cell m 3 c

/-- `from_state` (R160). -/
def fromState (m : CipherState) : Vector Word 4 := #v[column m 0, column m 1, column m 2, column m 3]

/-- SubBytes (R165). -/
def subBytes (setting : SboxAffine) (m : CipherState) : CipherState :=
  matrix fun r c => sboxOf setting (cell m r c)

/-- ShiftRows (R166): the column index is reduced mod 4. -/
def shiftRows (m : CipherState) : CipherState := matrix fun r c => cell m r (c + r)

/-- The product of column c with the circulant matrix whose first row is given, in row r
(R167, R171). -/
def mixCell (k0 k1 k2 k3 : Byte) (m : CipherState) (r c : Fin 4) : Byte :=
  gmul k0 (cell m r c) ^^^ gmul k1 (cell m (r + 1) c) ^^^ gmul k2 (cell m (r + 2) c)
    ^^^ gmul k3 (cell m (r + 3) c)

/-- MixColumns (R167). -/
def mixColumns (m : CipherState) : CipherState := matrix (mixCell 0x02 0x03 0x01 0x01 m)

/-- AddRoundKey(rnd) under the schedule words `w` (R168). -/
def addRoundKey (w : Nat → Word) (rnd : Nat) (m : CipherState) : CipherState :=
  matrix fun r c => cell m r c ^^^ wordByte (w (4 * rnd + c.val)) r

/-- InvSubBytes (R169). -/
def invSubBytes (setting : SboxAffine) (m : CipherState) : CipherState :=
  matrix fun r c => isboxOf setting (cell m r c)

/-- InvShiftRows (R170): the column index is reduced mod 4. -/
def invShiftRows (m : CipherState) : CipherState := matrix fun r c => cell m r (c - r)

/-- InvMixColumns (R171). -/
def invMixColumns (m : CipherState) : CipherState := matrix (mixCell 0x0E 0x0B 0x0D 0x09 m)

/-- RCON[j] for j = 1 .. 10 (R161); key expansion uses no other j. -/
def rcon (j : Nat) : Byte :=
  [0x01, 0x02, 0x04, 0x08, 0x10, 0x20, 0x40, 0x80, 0x1B, 0x36].getD (j - 1) 0

/-- SubWord (R162). -/
def subWord (setting : SboxAffine) (w : Word) : Word :=
  sboxOf setting (wordByte w 0) ++ sboxOf setting (wordByte w 1) ++ sboxOf setting (wordByte w 2)
    ++ sboxOf setting (wordByte w 3)

/-- RotWord (R162). -/
def rotWord (w : Word) : Word := w.rotateLeft 8

/-- The next word W[i] of the key expansion after the words W[0 .. i-1] (R164). -/
def nextKeyWord (setting : SboxAffine) (nk : Nat) (w : List Word) : Word :=
  let i := w.length
  let t := w.getD (i - 1) 0
  let t :=
    if i % nk = 0 then subWord setting (rotWord t) ^^^ (rcon (i / nk) ++ (0 : BitVec 24))
    else if nk = 8 ∧ i % nk = 4 then subWord setting t
    else t
  w.getD (i - nk) 0 ^^^ t

/-- `n` more words of the key expansion (R164). -/
def expandKey (setting : SboxAffine) (nk : Nat) : Nat → List Word → List Word
  | 0, w => w
  | n + 1, w => expandKey setting nk n (w ++ [nextKeyWord setting nk w])

/-- The number of rounds Nr = Nk + 6 (R163). -/
def roundsOf (nk : Nat) : Nat := nk + 6

/-- `aes_ks` (R164): from the nk raw key words to 4(Nr + 1) words. -/
def aesKeySchedule (setting : SboxAffine) (nk : Nat) (key : List Word) : List Word :=
  expandKey setting nk (4 * (roundsOf nk + 1) - nk) key

/-- One full round of encryption (R172). -/
def encRound (setting : SboxAffine) (w : Nat → Word) (rnd : Nat) (m : CipherState) : CipherState :=
  addRoundKey w rnd (mixColumns (shiftRows (subBytes setting m)))

/-- Rounds 1 .. n of encryption, in order (R172). -/
def encRounds (setting : SboxAffine) (w : Nat → Word) : Nat → CipherState → CipherState
  | 0, m => m
  | n + 1, m => encRound setting w (n + 1) (encRounds setting w n m)

/-- `aes_enc` (R172). -/
def aesEncrypt (setting : SboxAffine) (w : Nat → Word) (nr : Nat) (q : Vector Word 4) :
    Vector Word 4 :=
  let m := encRounds setting w (nr - 1) (addRoundKey w 0 (toState q))
  fromState (addRoundKey w nr (shiftRows (subBytes setting m)))

/-- One full round of decryption (R173). -/
def decRound (setting : SboxAffine) (w : Nat → Word) (rnd : Nat) (m : CipherState) : CipherState :=
  invMixColumns (addRoundKey w rnd (invSubBytes setting (invShiftRows m)))

/-- Rounds n down to 1 of decryption (R173). -/
def decRounds (setting : SboxAffine) (w : Nat → Word) : Nat → CipherState → CipherState
  | 0, m => m
  | n + 1, m => decRounds setting w n (decRound setting w (n + 1) m)

/-- `aes_dec` (R173). -/
def aesDecrypt (setting : SboxAffine) (w : Nat → Word) (nr : Nat) (q : Vector Word 4) :
    Vector Word 4 :=
  let m := decRounds setting w (nr - 1) (addRoundKey w nr (toState q))
  fromState (addRoundKey w 0 (invSubBytes setting (invShiftRows m)))

/-- The file AW after AES_KS (R175): the schedule, and 0 above it. -/
def awFile (setting : SboxAffine) (nk : Nat) (key : List Word) : Vector Word 60 :=
  tabulate 60 fun i => (aesKeySchedule setting nk key).getD i 0

/-- AES_KS (R175). -/
def execAesKs (f : Args) (s : State) : Host.Outcome State Fault Refusal :=
  complete s fun p =>
    if f.rsvdButA then .error .rsvd
    else if !Config.aesKeyBytes.contains f.a then .error .keyLen
    else
      let nk := f.a.toNat / 4
      .ok (s.setAesSchedule (awFile s.sboxAffine nk (p.keyWords nk)) (BitVec.ofNat 4 (roundsOf nk)))

/-- The checks and the effect that AES_ENC and AES_DEC share (R176, R177). -/
def aesCipher (f : Args) (s : State) (transform : Vector Word 4 → Vector Word 4) :
    Host.Outcome State Fault Refusal :=
  complete s fun p =>
    if f.rsvdButA then .error .rsvd
    else if f.a != Config.aesBlockBytes then .error .blkLen
    else if !s.akv then .error .noKey
    else .ok (s.setDout (transform p.din))

/-- AES_ENC (R176). -/
def execAesEnc (f : Args) (s : State) : Host.Outcome State Fault Refusal :=
  aesCipher f s (aesEncrypt s.sboxAffine s.scheduleWord s.anr.toNat)

/-- AES_DEC (R177). -/
def execAesDec (f : Args) (s : State) : Host.Outcome State Fault Refusal :=
  aesCipher f s (aesDecrypt s.sboxAffine s.scheduleWord s.anr.toNat)

/-- What the six state commands share (R178 to R180, R182 to R184): one round transform of DIN, to
DOUT. -/
def stateCommand (f : Args) (s : State) (transform : CipherState → CipherState) :
    Host.Outcome State Fault Refusal :=
  complete s fun p =>
    if f.rsvdAll then .error .rsvd
    else .ok (s.setDout (fromState (transform (toState p.din))))

/-- AES_SB (R178). -/
def execAesSb (f : Args) (s : State) : Host.Outcome State Fault Refusal :=
  stateCommand f s (subBytes s.sboxAffine)

/-- AES_SR (R179). -/
def execAesSr (f : Args) (s : State) : Host.Outcome State Fault Refusal :=
  stateCommand f s shiftRows

/-- AES_MC (R180). -/
def execAesMc (f : Args) (s : State) : Host.Outcome State Fault Refusal :=
  stateCommand f s mixColumns

/-- AES_ARK (R181). -/
def execAesArk (f : Args) (s : State) : Host.Outcome State Fault Refusal :=
  complete s fun p =>
    if f.rsvdButB then .error .rsvd
    else if !s.akv then .error .noKey
    else if s.anr.toNat < f.b.toNat then .error .argRange
    else .ok (s.setDout (fromState (addRoundKey s.scheduleWord f.b.toNat (toState p.din))))

/-- AES_ISB (R182). -/
def execAesIsb (f : Args) (s : State) : Host.Outcome State Fault Refusal :=
  stateCommand f s (invSubBytes s.sboxAffine)

/-- AES_ISR (R183). -/
def execAesIsr (f : Args) (s : State) : Host.Outcome State Fault Refusal :=
  stateCommand f s invShiftRows

/-- AES_IMC (R184). -/
def execAesImc (f : Args) (s : State) : Host.Outcome State Fault Refusal :=
  stateCommand f s invMixColumns

end Sys2Proof.Machine
end

