-- ==== Sys2Proof/Machine/System.lean ====
section
/-! DEFINITION. The system commands (spec/44_system.md R193, R194). -/

namespace Sys2Proof.Machine

/-- NOP (R193): no register writes. -/
def execNop (f : Args) (s : State) : Host.Outcome State Fault Refusal :=
  complete s fun _ => if f.rsvdAll then .error .rsvd else .ok s

/-- SRST (R194): every register and file takes its reset value; completion then sets DONE. -/
def execSrst (f : Args) (s : State) : Host.Outcome State Fault Refusal :=
  complete s fun _ => if f.rsvdAll then .error .rsvd else .ok s.resetRegisters

end Sys2Proof.Machine
end

