-- ==== Sys2Proof/Machine/Dispatch.lean ====
section
/-! DEFINITION. The meaning of each command: the completion step of the engine for it (spec/44_system.md
R192), one arm per constructor of Instr. -/

namespace Sys2Proof.Machine

def exec (i : Instr) (s : State) : Host.Outcome State Fault Refusal :=
  match i with
  | .nop f => Sys2Proof.Machine.execNop f s
  | .srst f => Sys2Proof.Machine.execSrst f s
  | .desKs f => Sys2Proof.Machine.execDesKs f s
  | .desEnc f => Sys2Proof.Machine.execDesEnc f s
  | .desDec f => Sys2Proof.Machine.execDesDec f s
  | .desF f => Sys2Proof.Machine.execDesF f s
  | .desS f => Sys2Proof.Machine.execDesS f s
  | .aesKs f => Sys2Proof.Machine.execAesKs f s
  | .aesEnc f => Sys2Proof.Machine.execAesEnc f s
  | .aesDec f => Sys2Proof.Machine.execAesDec f s
  | .aesSb f => Sys2Proof.Machine.execAesSb f s
  | .aesSr f => Sys2Proof.Machine.execAesSr f s
  | .aesMc f => Sys2Proof.Machine.execAesMc f s
  | .aesArk f => Sys2Proof.Machine.execAesArk f s
  | .aesIsb f => Sys2Proof.Machine.execAesIsb f s
  | .aesIsr f => Sys2Proof.Machine.execAesIsr f s
  | .aesImc f => Sys2Proof.Machine.execAesImc f s
  | .gfAdd f => Sys2Proof.Machine.execGfAdd f s
  | .gfMul f => Sys2Proof.Machine.execGfMul f s
  | .gfInv f => Sys2Proof.Machine.execGfInv f s
  | .sbox f => Sys2Proof.Machine.execSbox f s
  | .isbox f => Sys2Proof.Machine.execIsbox f s
  | .perm f => Sys2Proof.Machine.execPerm f s

end Sys2Proof.Machine
end

