-- ==== Sys2Proof/Machine/Turn.lean ====
section
/-! DEFINITION. The three kinds of step the machine can take: a host access of the window
(spec/20_memory.md R50 to R59), the engine's completion step (spec/44_system.md R192) and the hardware reset
(spec/70_reset_and_hazards.md R230). -/

namespace Sys2Proof.Machine

/-- A host access is well-formed when it is 32 bits wide at an offset that is a multiple of 4 (R51). -/
def accessOk (width : Nat) (off : BitVec 10) : Bool := width == Config.regBits && off.toNat % 4 == 0

/-- A host read: a well-formed one returns the register (R51) and changes nothing (R59); any other is
refused, returns 0 and records BUS (R58). -/
def State.hostRead (s : State) (width : Nat) (off : BitVec 10) : State :=
  if accessOk width off then { s with rdata := s.readReg (regAt off) }
  else { s.raise .bus with rdata := 0 }

/-- A host write: a well-formed one presents the value to the register (R51), any other is refused and
records BUS (R58). -/
def State.hostWrite (s : State) (width : Nat) (off : BitVec 10) (v : Word) : State :=
  if accessOk width off then s.writeReg (regAt off) v else s.raise .bus

/-- One host access (R6). -/
def State.hostStep (s : State) : Access → State
  | .read width off => s.hostRead width off
  | .write width off v => s.hostWrite width off v

/-- The offset that a host bus address reaches: CE_BASE is offset 0 of a window of 1024 bytes (R50). An
address outside the window does not reach the engine. -/
def windowOffset (addr : Nat) : Option (BitVec 10) :=
  if Config.ceBase ≤ addr ∧ addr < Config.ceBase + Config.windowBytes then
    some (BitVec.ofNat 10 (addr - Config.ceBase))
  else none

/-- The host bus address of an offset of the window (R196). -/
def busAddress (off : BitVec 10) : Nat := Config.ceBase + off.toNat

/-- The hardware reset (R230): every register and file at its reset value; a command in flight is
abandoned. -/
def State.hardwareReset (s : State) : State := s.resetRegisters

/-- The engine's completion step (R192). The command word of the latch is decoded; an unassigned OP ends
with ILLEGAL (R76), any other word with what its command does. While INFLIGHT is empty the engine has no
step and the machine is idle (R214). -/
def engineStep (s : State) : Host.Outcome State Fault Refusal :=
  match s.inflight with
  | none => .next s
  | some f =>
    match decode f.cmd with
    | .ok i => exec i s
    | .error _ => .next (s.finish (.error .illegal))

/-- The step of the given turn. -/
def takeTurn (t : Turn) (s : State) : Host.Outcome State Fault Refusal :=
  match t with
  | .host a => .next (s.hostStep a)
  | .engine => engineStep s
  | .reset => .next s.hardwareReset

end Sys2Proof.Machine
end

