-- ==== Sys2Proof/Machine/Step.lean ====
section
/-! DEFINITION. One step of the machine: the next turn of the schedule (spec/20_memory.md R62). When no turn
is left, the engine completes the command in flight, so every accepted command completes
(spec/70_reset_and_hazards.md R236), and an idle engine stays as it is (spec/60_exceptions.md R214). -/

namespace Sys2Proof.Machine

/-- One step of the machine. -/
def step (s : State) : Host.Outcome State Fault Refusal :=
  match s.schedule with
  | t :: rest => takeTurn t { s with schedule := rest }
  | [] => engineStep s

/-- The state in which the command word `w` (its low `nbits` bits) has just been accepted (R190) and the
engine's completion step is the next turn, so that the next step decodes and runs it. -/
def State.withFetchWord (s : State) (nbits w : Nat) : State :=
  { s.accept (tableWord nbits w) with schedule := .engine :: s.schedule }

end Sys2Proof.Machine
end

