-- ==== Sys2Proof/Safety.lean ====
section
/-! DEFINITION. The terms in which statements speak of the machine: a step that answers, the invariants of
STATUS and of the key schedules (spec/10_state.md R19, R29 to R31), the must-be-zero fields and length fields
of the command words (spec/30_encoding.md R74), and the registers a command may write (R75). -/

namespace Sys2Proof.Machine

/-- The step answers a next state: it neither faults nor refuses. -/
def Answers (o : Host.Outcome State Fault Refusal) : Prop := ∃ t, o = .next t

/-- The invariants of STATUS (R19), with the schedule files zero where no schedule stands (R29, R30). -/
structure StatusInv (s : State) : Prop where
  /-- ERR = 0 implies ERRCODE = 0x00. -/
  noCode : s.err = false → s.errCode = .none
  /-- An error has a code. -/
  hasCode : s.err = true → s.errCode ≠ .none
  /-- AKV = 0 if and only if ANR = 0. -/
  keyRounds : s.akv = false ↔ s.anr = 0
  /-- ANR is 0, 10, 12 or 14. -/
  rounds : s.anr = 0 ∨ s.anr = 10 ∨ s.anr = 12 ∨ s.anr = 14
  /-- BUSY = 1 implies DONE = 0. -/
  busyNotDone : s.busy = true → s.done = false
  /-- Without a DES schedule DRK holds its reset value. -/
  noDesKey : s.dkv = false → s.drk = Vector.replicate 16 0
  /-- Without an AES schedule AW holds its reset value. -/
  noAesKey : s.akv = false → s.aw = Vector.replicate 60 0
  /-- The words above the schedule are 0. -/
  above : ∀ i : Fin 60, 4 * (s.anr.toNat + 1) ≤ i.val → s.aw[i] = 0

/-- DKV and AKV say that DRK and AW hold a schedule of some key (R31). -/
structure ScheduleInv (s : State) : Prop where
  /-- DRK is the schedule of some 64-bit key. -/
  des : s.dkv = true → ∃ k : Block64, s.desSchedule = desKeySchedule k
  /-- AW is the expansion of some key of nk words, and ANR its round count. -/
  aes : s.akv = true → ∃ (nk : Nat) (key : List Word), (nk = 4 ∨ nk = 6 ∨ nk = 8) ∧
    key.length = nk ∧ s.anr.toNat = nk + 6 ∧ s.aw = awFile s.sboxAffine nk key

/-- RSV or a field that R74 requires to be 0 is not 0. -/
def reservedViolated : Instr → Prop
  | .desKs f | .desEnc f | .desDec f | .aesKs f | .aesEnc f | .aesDec f =>
    f.rsv ≠ 0 ∨ f.b ≠ 0 ∨ f.c ≠ 0
  | .aesArk f => f.rsv ≠ 0 ∨ f.a ≠ 0 ∨ f.c ≠ 0
  | .perm f => f.rsv ≠ 0 ∨ f.c.getLsbD 2 = true ∨ f.c.getLsbD 3 = true
  | .nop f | .srst f | .desF f | .desS f | .aesSb f | .aesSr f | .aesMc f | .aesIsb f | .aesIsr f
  | .aesImc f | .gfAdd f | .gfMul f | .gfInv f | .sbox f | .isbox f =>
    f.rsv ≠ 0 ∨ f.a ≠ 0 ∨ f.b ≠ 0 ∨ f.c ≠ 0

/-- The error of a length field out of its legal values, as R74's table has it. -/
def lengthError : Instr → Option ErrCode
  | .desKs f => if f.a = 8 then none else some .keyLen
  | .desEnc f | .desDec f => if f.a = 8 then none else some .blkLen
  | .aesKs f => if f.a = 16 ∨ f.a = 24 ∨ f.a = 32 then none else some .keyLen
  | .aesEnc f | .aesDec f => if f.a = 16 then none else some .blkLen
  | .perm f =>
    if 1 ≤ f.a.toNat ∧ f.a.toNat ≤ 64 ∧ 1 ≤ f.b.toNat ∧ f.b.toNat ≤ 64 then none else some .permLen
  | .aesArk _ | .nop _ | .srst _ | .desF _ | .desS _ | .aesSb _ | .aesSr _ | .aesMc _ | .aesIsb _
  | .aesIsr _ | .aesImc _ | .gfAdd _ | .gfMul _ | .gfInv _ | .sbox _ | .isbox _ => none

/-- The command needs a key schedule whose valid flag is 0 (R200, NOKEY). -/
def keyMissing (s : State) : Instr → Prop
  | .desEnc _ | .desDec _ => s.dkv = false
  | .aesEnc _ | .aesDec _ | .aesArk _ => s.akv = false
  | .nop _ | .srst _ | .desKs _ | .desF _ | .desS _ | .aesKs _ | .aesSb _ | .aesSr _ | .aesMc _
  | .aesIsb _ | .aesIsr _ | .aesImc _ | .gfAdd _ | .gfMul _ | .gfInv _ | .sbox _ | .isbox _
  | .perm _ => False

/-- The registers a command writes on success, besides STATUS (R75). SRST writes every register. -/
def writtenOnSuccess (i : Instr) (r : Reg) : Prop :=
  match i with
  | .nop _ => False
  | .srst _ => True
  | .desKs _ => ∃ k, r = .drkHi k ∨ r = .drkLo k
  | .aesKs _ => ∃ k, r = .aw k
  | .desEnc _ | .desDec _ | .desF _ | .desS _ | .aesEnc _ | .aesDec _ | .aesSb _ | .aesSr _
  | .aesMc _ | .aesArk _ | .aesIsb _ | .aesIsr _ | .aesImc _ => ∃ k, r = .dout k
  | .gfAdd _ | .gfMul _ | .gfInv _ | .sbox _ | .isbox _ => r = .gfR
  | .perm _ => ∃ k, r = .pout k

/-- What a command that ends with an error leaves: STATUS has the code, the latch is empty, every other
field is as it was (R201). -/
def failedWith (s : State) (code : ErrCode) : State :=
  { s with err := true, errCode := code, inflight := none }

/-- The registers a host writes as plain values: the RW registers of R16 but STATUS. -/
def dataWritable : Reg → Prop
  | .ctrl | .din _ | .key _ | .gfA | .gfB | .pin _ | .ptab _ => True
  | .id | .status | .cmd | .dout _ | .gfR | .pout _ | .drkHi _ | .drkLo _ | .aw _ | .reserved => False

/-- The bits of a written value that the register has: bits 1:0 of CTRL (R18), bits 7:0 of GF_A and GF_B
(R25), all 32 of the others. -/
def definedBits (r : Reg) (v : Word) : Word :=
  match r with
  | .ctrl => v &&& 0x00000003
  | .gfA | .gfB => v &&& 0x000000FF
  | .din _ | .key _ | .pin _ | .ptab _ => v
  | .id | .status | .cmd | .dout _ | .gfR | .pout _ | .drkHi _ | .drkLo _ | .aw _ | .reserved => v

/-- A PERM table entry is legal for the base and the input length n of the command word (R103). -/
def permEntryLegal (f : Args) (entry : Nat) : Prop :=
  if f.c.getLsbD 0 then entry < f.b.toNat else 1 ≤ entry ∧ entry ≤ f.b.toNat

/-- The input position a legal PERM table entry selects (R100). -/
def permSource (f : Args) (entry : Nat) : Nat :=
  let k0 := if f.c.getLsbD 0 then entry else entry - 1
  if f.c.getLsbD 1 then f.b.toNat - 1 - k0 else k0

/-- A permutation table of length n: each of 1 .. n exactly once (R106). -/
def isPermutationTable (n : Nat) (table : List Nat) : Prop :=
  table.length = n ∧ table.Nodup ∧ ∀ t ∈ table, 1 ≤ t ∧ t ≤ n

end Sys2Proof.Machine
end

