-- ==== Sys2Proof/Certificates/Slice0/Obligations.lean ====
section
/-! DEFINITION. The statements for the provers. Each docstring names the rules of spec/ it formalises; `l`
is the command in flight, so `l.snap` are the operands of R32. A statement that rests on a choice of the
model says so and names its row of the assumption log; that steps are read from `schedule` and that a read's
value stands in `rdata` are rows 1 and 3 for every statement about `step`. -/

open Sys2Proof Sys2Proof.Machine

/-! ### Encoding -/

/-- Decoding the word of any command gives the command back: no field of R71 is dropped. -/
def Obligations.DecodeOfEncode : Prop :=
  ∀ i : Instr, decode (encode i) = .ok i

/-- Every word that decodes is the word of the command it decodes to (R71, R72). -/
def Obligations.EncodeOfDecode : Prop :=
  ∀ (w : Word) (i : Instr), decode w = .ok i → encode i = w

/-- The 23 assigned OP values of R73 decode, whatever the other fields are (R70); every other word is
rejected by its OP (R76). -/
def Obligations.DecodeSelectsByAssignedOp : Prop :=
  ∀ w : Word,
    ((∃ i, decode w = .ok i ∧ i.args = argsField w) ↔
      opField w ∈ ([0x00, 0x01, 0x10, 0x11, 0x12, 0x13, 0x14, 0x20, 0x21, 0x22, 0x23, 0x24, 0x25, 0x26,
        0x27, 0x28, 0x29, 0x30, 0x31, 0x32, 0x33, 0x34, 0x40] : List (BitVec 8))) ∧
    (opField w ∉ ([0x00, 0x01, 0x10, 0x11, 0x12, 0x13, 0x14, 0x20, 0x21, 0x22, 0x23, 0x24, 0x25, 0x26,
        0x27, 0x28, 0x29, 0x30, 0x31, 0x32, 0x33, 0x34, 0x40] : List (BitVec 8)) →
      decode w = .error (.unassignedOp (opField w)))

/-- Which command each OP is: the word of every row of R73, with the field values of R74, decodes to the
command of that row; an unassigned OP is rejected (R77). -/
def Obligations.SpecWordsDecode : Prop :=
  decode 0x00000000 = .ok (.nop ⟨0, 0, 0, 0⟩) ∧
  decode 0x00000001 = .ok (.srst ⟨0, 0, 0, 0⟩) ∧
  decode 0x00000810 = .ok (.desKs ⟨8, 0, 0, 0⟩) ∧
  decode 0x00000811 = .ok (.desEnc ⟨8, 0, 0, 0⟩) ∧
  decode 0x00000812 = .ok (.desDec ⟨8, 0, 0, 0⟩) ∧
  decode 0x00000013 = .ok (.desF ⟨0, 0, 0, 0⟩) ∧
  decode 0x00000014 = .ok (.desS ⟨0, 0, 0, 0⟩) ∧
  decode 0x00001820 = .ok (.aesKs ⟨24, 0, 0, 0⟩) ∧
  decode 0x00001021 = .ok (.aesEnc ⟨16, 0, 0, 0⟩) ∧
  decode 0x00001022 = .ok (.aesDec ⟨16, 0, 0, 0⟩) ∧
  decode 0x00000023 = .ok (.aesSb ⟨0, 0, 0, 0⟩) ∧
  decode 0x00000024 = .ok (.aesSr ⟨0, 0, 0, 0⟩) ∧
  decode 0x00000025 = .ok (.aesMc ⟨0, 0, 0, 0⟩) ∧
  decode 0x000A0026 = .ok (.aesArk ⟨0, 10, 0, 0⟩) ∧
  decode 0x00000027 = .ok (.aesIsb ⟨0, 0, 0, 0⟩) ∧
  decode 0x00000028 = .ok (.aesIsr ⟨0, 0, 0, 0⟩) ∧
  decode 0x00000029 = .ok (.aesImc ⟨0, 0, 0, 0⟩) ∧
  decode 0x00000030 = .ok (.gfAdd ⟨0, 0, 0, 0⟩) ∧
  decode 0x00000031 = .ok (.gfMul ⟨0, 0, 0, 0⟩) ∧
  decode 0x00000032 = .ok (.gfInv ⟨0, 0, 0, 0⟩) ∧
  decode 0x00000033 = .ok (.sbox ⟨0, 0, 0, 0⟩) ∧
  decode 0x00000034 = .ok (.isbox ⟨0, 0, 0, 0⟩) ∧
  decode 0x02080440 = .ok (.perm ⟨4, 8, 2, 0⟩) ∧
  decode 0x10000011 = .ok (.desEnc ⟨0, 0, 0, 1⟩) ∧
  decode 0xFFFFFFFF = .error (.unassignedOp 0xFF)

/-! ### Steps of the machine -/

/-- The engine's turn runs the command in flight as it decodes; so does a step with no turn left (the
model's schedule, notes/assumptions/1). -/
def Obligations.StepRunsTheCommandInFlight : Prop :=
  ∀ (s : State) (l : InFlight) (i : Instr), s.inflight = some l → decode l.cmd = .ok i →
    (∀ rest, s.schedule = .engine :: rest → step s = exec i { s with schedule := rest }) ∧
    (s.schedule = [] → step s = exec i s)

/-- A word with an unassigned OP completes with ILLEGAL and changes no register but STATUS (R76, R192). That
the engine's step is the one of its turn, and of a step with no turn left, is the model's choice
(notes/assumptions/1). -/
def Obligations.UnassignedOpEndsWithIllegal : Prop :=
  ∀ (s : State) (l : InFlight) (e : DecodeError), s.inflight = some l → decode l.cmd = .error e →
    (∀ rest, s.schedule = .engine :: rest →
      step s = .next (failedWith { s with schedule := rest } .illegal)) ∧
    (s.schedule = [] → step s = .next (failedWith s .illegal))

/-- With no command in flight a turn of the engine, or a step with no turn left, changes no register. The
spec's engine is idle then, keeps every register (R214) and has no step (R192): the turn that changes nothing
is the model's choice (notes/assumptions/1). -/
def Obligations.IdleEngineKeepsEveryRegister : Prop :=
  ∀ s : State, s.inflight = none →
    (s.schedule = [] → step s = .next s) ∧
    (∀ rest, s.schedule = .engine :: rest → step s = .next { s with schedule := rest })

/-- A well-formed read returns the register as it is and changes nothing else (R51, R59). -/
def Obligations.HostReadReturnsTheRegister : Prop :=
  ∀ (s : State) (off : BitVec 10) (rest : List Turn), off.toNat % 4 = 0 →
    s.schedule = .host (.read 32 off) :: rest →
    step s = .next { s with schedule := rest, rdata := s.readReg (regAt off) }

/-- R58: an access of another width or at an offset that is no multiple of 4 sets ERR and ERRCODE = BUS, a
read returns 0, and nothing else changes, the command in flight included. -/
def Obligations.MalformedAccessIsRefused : Prop :=
  ∀ (s : State) (width : Nat) (off : BitVec 10) (v : Word) (rest : List Turn),
    (width ≠ 32 ∨ off.toNat % 4 ≠ 0) →
    (s.schedule = .host (.read width off) :: rest →
      step s = .next { s with schedule := rest, err := true, errCode := .bus, rdata := 0 }) ∧
    (s.schedule = .host (.write width off v) :: rest →
      step s = .next { s with schedule := rest, err := true, errCode := .bus })

/-- Where each register of R16 stands in the window. -/
def Obligations.RegisterMapOffsets : Prop :=
  regAt 0x000 = .id ∧ regAt 0x004 = .ctrl ∧ regAt 0x008 = .status ∧ regAt 0x00C = .cmd ∧
  regAt 0x060 = .gfA ∧ regAt 0x064 = .gfB ∧ regAt 0x068 = .gfR ∧ regAt 0x06C = .reserved ∧
  (∀ i : Fin 4, regAt (BitVec.ofNat 10 (0x010 + 4 * i.val)) = .reserved) ∧
  (∀ i : Fin 4, regAt (BitVec.ofNat 10 (0x020 + 4 * i.val)) = .din i) ∧
  (∀ i : Fin 4, regAt (BitVec.ofNat 10 (0x030 + 4 * i.val)) = .dout i) ∧
  (∀ i : Fin 8, regAt (BitVec.ofNat 10 (0x040 + 4 * i.val)) = .key i) ∧
  (∀ i : Fin 2, regAt (BitVec.ofNat 10 (0x070 + 4 * i.val)) = .pin i) ∧
  (∀ i : Fin 2, regAt (BitVec.ofNat 10 (0x078 + 4 * i.val)) = .pout i) ∧
  (∀ i : Fin 16, regAt (BitVec.ofNat 10 (0x080 + 4 * i.val)) = .ptab i) ∧
  (∀ i : Fin 16, regAt (BitVec.ofNat 10 (0x0C0 + 4 * i.val)) = .reserved) ∧
  (∀ i : Fin 16, regAt (BitVec.ofNat 10 (0x100 + 8 * i.val)) = .drkHi i) ∧
  (∀ i : Fin 16, regAt (BitVec.ofNat 10 (0x104 + 8 * i.val)) = .drkLo i) ∧
  (∀ i : Fin 32, regAt (BitVec.ofNat 10 (0x180 + 4 * i.val)) = .reserved) ∧
  (∀ i : Fin 60, regAt (BitVec.ofNat 10 (0x200 + 4 * i.val)) = .aw i) ∧
  (∀ i : Fin 68, regAt (BitVec.ofNat 10 (0x2F0 + 4 * i.val)) = .reserved)

/-- What every register reads: the constant ID (R17), CTRL (R18), the fields of STATUS (R19), CMD and the
reserved offsets as 0 (R21, R56), the bytes of the GF registers (R25), the two registers of a DES round key
(R29), with zeros in every reserved bit (R56); DIN, DOUT, KEY, PIN, POUT, PTAB and AW their own words (R22 to
R24, R26 to R28, R30); and the numbers of the error codes that ERRCODE shows (R200). -/
def Obligations.RegisterReadFields : Prop :=
  ∀ s : State,
    s.readReg .id = 0x41573131 ∧ s.readReg .cmd = 0 ∧ s.readReg .reserved = 0 ∧
    (s.readReg .ctrl).getLsbD 0 = s.doneIe ∧ (s.readReg .ctrl).getLsbD 1 = s.errIe ∧
    (s.readReg .ctrl).extractLsb' 2 30 = 0 ∧
    (s.readReg .status).getLsbD 0 = s.inflight.isSome ∧ (s.readReg .status).getLsbD 1 = s.done ∧
    (s.readReg .status).getLsbD 2 = s.err ∧ (s.readReg .status).getLsbD 3 = s.dkv ∧
    (s.readReg .status).getLsbD 4 = s.akv ∧ (s.readReg .status).extractLsb' 5 3 = 0 ∧
    (s.readReg .status).extractLsb' 8 8 = s.errCode.code ∧
    (s.readReg .status).extractLsb' 16 4 = s.anr ∧ (s.readReg .status).extractLsb' 20 12 = 0 ∧
    (s.readReg .gfA).extractLsb' 0 8 = s.gfA ∧ (s.readReg .gfA).extractLsb' 8 24 = 0 ∧
    (s.readReg .gfB).extractLsb' 0 8 = s.gfB ∧ (s.readReg .gfB).extractLsb' 8 24 = 0 ∧
    (s.readReg .gfR).extractLsb' 0 8 = s.gfR ∧ (s.readReg .gfR).extractLsb' 8 24 = 0 ∧
    (∀ i : Fin 16, (s.readReg (.drkHi i)).extractLsb' 0 16 ++ s.readReg (.drkLo i) = s.drk[i] ∧
      (s.readReg (.drkHi i)).extractLsb' 16 16 = 0) ∧
    (∀ i : Fin 4, s.readReg (.din i) = s.din[i] ∧ s.readReg (.dout i) = s.dout[i]) ∧
    (∀ i : Fin 8, s.readReg (.key i) = s.key[i]) ∧
    (∀ i : Fin 2, s.readReg (.pin i) = s.pin[i] ∧ s.readReg (.pout i) = s.pout[i]) ∧
    (∀ i : Fin 16, s.readReg (.ptab i) = s.ptab[i]) ∧
    (∀ i : Fin 60, s.readReg (.aw i) = s.aw[i]) ∧
    ErrCode.none.code = 0x00 ∧ ErrCode.illegal.code = 0x01 ∧ ErrCode.rsvd.code = 0x02 ∧
    ErrCode.blkLen.code = 0x03 ∧ ErrCode.keyLen.code = 0x04 ∧ ErrCode.noKey.code = 0x05 ∧
    ErrCode.permLen.code = 0x06 ∧ ErrCode.permRange.code = 0x07 ∧ ErrCode.busy.code = 0x08 ∧
    ErrCode.bus.code = 0x09 ∧ ErrCode.argRange.code = 0x0A

/-- A well-formed write to a read-write data register or CTRL gives the register the value (its defined
bits), and every other register reads as before, STATUS included; the command in flight is not touched
(R18, R22, R24 to R26, R28). -/
def Obligations.WriteThenReadAndFrame : Prop :=
  ∀ (s : State) (off : BitVec 10) (v : Word) (rest : List Turn), off.toNat % 4 = 0 →
    s.schedule = .host (.write 32 off v) :: rest → dataWritable (regAt off) →
    ∃ t, step s = .next t ∧ t.readReg (regAt off) = definedBits (regAt off) v ∧
      (∀ r, r ≠ regAt off → t.readReg r = s.readReg r) ∧
      t.inflight = s.inflight ∧ t.schedule = rest ∧ t.rdata = s.rdata ∧ t.sboxAffine = s.sboxAffine

/-- R20: a write of STATUS clears DONE where bit 1 is set, ERR and ERRCODE where bit 2 is set, ignores
every other bit, also while a command is in flight, which it does not affect. -/
def Obligations.StatusWriteClearsFlags : Prop :=
  ∀ (s : State) (v : Word) (rest : List Turn), s.schedule = .host (.write 32 0x008 v) :: rest →
    step s = .next { s with
      schedule := rest
      done := if v.getLsbD 1 then false else s.done
      err := if v.getLsbD 2 then false else s.err
      errCode := if v.getLsbD 2 then .none else s.errCode }

/-- R57: a well-formed write to a read-only register is ignored and does not set ERR. -/
def Obligations.ReadOnlyWriteIsIgnored : Prop :=
  ∀ (s : State) (off : BitVec 10) (v : Word) (rest : List Turn), off.toNat % 4 = 0 →
    s.schedule = .host (.write 32 off v) :: rest →
    (regAt off = .id ∨ (∃ i, regAt off = .dout i) ∨ regAt off = .gfR ∨ (∃ i, regAt off = .pout i) ∨
      (∃ i, regAt off = .drkHi i) ∨ (∃ i, regAt off = .drkLo i) ∨ (∃ i, regAt off = .aw i)) →
    step s = .next { s with schedule := rest }

/-- A well-formed write to a reserved offset is ignored, a read of one returns 0, neither sets ERR
(R56). -/
def Obligations.ReservedOffsetIsInert : Prop :=
  ∀ (s : State) (off : BitVec 10) (v : Word) (rest : List Turn), off.toNat % 4 = 0 →
    regAt off = .reserved →
    (s.schedule = .host (.write 32 off v) :: rest → step s = .next { s with schedule := rest }) ∧
    (s.schedule = .host (.read 32 off) :: rest → step s = .next { s with schedule := rest, rdata := 0 })

/-- R190: a write of CMD while BUSY is 0 is accepted, whatever the value: the latch takes the word and a
copy of the input registers, DONE, ERR and ERRCODE are cleared, nothing else changes. -/
def Obligations.CommandIsAccepted : Prop :=
  ∀ (s : State) (v : Word) (rest : List Turn), s.inflight = none →
    s.schedule = .host (.write 32 0x00C v) :: rest →
    step s = .next { s with
      schedule := rest
      inflight := some ⟨v, ⟨s.din, s.key, s.gfA, s.gfB, s.pin, s.ptab⟩⟩
      done := false
      err := false
      errCode := .none }

/-- A write of CMD while BUSY is 1 is rejected with the BUSY error: the word is discarded, the command in
flight and every register but STATUS stay (R191). -/
def Obligations.CommandIsRejectedWhileBusy : Prop :=
  ∀ (s : State) (v : Word) (rest : List Turn), s.inflight ≠ none →
    s.schedule = .host (.write 32 0x00C v) :: rest →
    step s = .next { s with schedule := rest, err := true, errCode := .busy }

/-- No host access writes a result register, a schedule or its flags, or disturbs the command in flight
(R23, R29 to R32, R66): only BUSY's rising edge, the acceptance, is the host's. -/
def Obligations.HostAccessKeepsResultsAndFlight : Prop :=
  ∀ (s : State) (a : Access),
    (s.hostStep a).dout = s.dout ∧ (s.hostStep a).gfR = s.gfR ∧ (s.hostStep a).pout = s.pout ∧
    (s.hostStep a).drk = s.drk ∧ (s.hostStep a).aw = s.aw ∧ (s.hostStep a).dkv = s.dkv ∧
    (s.hostStep a).akv = s.akv ∧ (s.hostStep a).anr = s.anr ∧
    ∀ l, s.inflight = some l → (s.hostStep a).inflight = some l

/-- The hardware reset puts every register and file at its reset value and abandons the command in flight
(R230). The state right after reset reads the same: ID its constant, every other register 0, no command in
flight, the interrupt line low (R36, R205). That the parameter SBOX_AFFINE, the rest of the schedule and the
last value a read returned, which are no state of the engine, stay through the reset is the model's choice
(notes/assumptions/9). -/
def Obligations.ResetRestoresEverything : Prop :=
  (∀ (s : State) (rest : List Turn), s.schedule = .reset :: rest →
    ∃ t, step s = .next t ∧ t.inflight = none ∧ t.irq = false ∧ t.readReg .id = 0x41573131 ∧
      (∀ r, r ≠ .id → t.readReg r = 0) ∧
      t.sboxAffine = s.sboxAffine ∧ t.schedule = rest ∧ t.rdata = s.rdata) ∧
  (State.reset.inflight = none ∧ State.reset.irq = false ∧ State.reset.readReg .id = 0x41573131 ∧
    ∀ r, r ≠ .id → State.reset.readReg r = 0)

/-- A host bus address reaches the window exactly from CE_BASE on for 1024 bytes, at the offset that is its
distance from CE_BASE (R50, R196), whatever CE_BASE is. -/
def Obligations.WindowStandsAtCeBase : Prop :=
  (∀ off : BitVec 10, windowOffset (busAddress off) = some off) ∧
  (∀ addr : Nat, windowOffset addr = none ↔ addr < Config.ceBase ∨ Config.ceBase + 1024 ≤ addr)

/-- The interrupt line is R205's formula over CTRL and STATUS as they read. So at once: a write of STATUS
lowers it by the flags it clears (R20, R204), a write of CTRL enables and disables it (R18), acceptance
lowers it (R190); and, as DONE is 0 while a command is in flight (R19), a command that completes raises it
under DONE_IE and keeps it for an earlier enabled error, one that ends with an error raises it under ERR_IE,
and SRST, which clears CTRL, lowers it (R194). -/
def Obligations.InterruptLineFollowsFlags : Prop :=
  (∀ s : State, s.irq =
    (((s.readReg .ctrl).getLsbD 0 && (s.readReg .status).getLsbD 1) ||
      ((s.readReg .ctrl).getLsbD 1 && (s.readReg .status).getLsbD 2))) ∧
  (∀ (s : State) (v : Word) (rest : List Turn), s.schedule = .host (.write 32 0x008 v) :: rest →
    ∃ t, step s = .next t ∧
      t.irq = ((s.doneIe && s.done && !v.getLsbD 1) || (s.errIe && s.err && !v.getLsbD 2))) ∧
  (∀ (s : State) (v : Word) (rest : List Turn), s.schedule = .host (.write 32 0x004 v) :: rest →
    ∃ t, step s = .next t ∧ t.irq = ((v.getLsbD 0 && s.done) || (v.getLsbD 1 && s.err))) ∧
  (∀ (s : State) (v : Word) (rest : List Turn), s.inflight = none →
    s.schedule = .host (.write 32 0x00C v) :: rest → ∃ t, step s = .next t ∧ t.irq = false) ∧
  (∀ (i : Instr) (s t : State), (∀ f, i ≠ .srst f) → s.done = false → exec i s = .next t →
    t.irq = if t.done then s.doneIe || (s.errIe && s.err) else s.errIe) ∧
  (∀ (f : Args) (s t : State), s.done = false → exec (.srst f) s = .next t →
    t.irq = if t.done then false else s.errIe)

/-! ### The machine as a whole -/

/-- Every step of every state answers a next state: no command, word or access stops the machine (R195,
R201). -/
def Obligations.StepAlwaysAnswers : Prop :=
  ∀ s : State, Answers (step s)

/-- The command in flight ends after finitely many steps, and until then it is the same command with the
same snapshot (R236, R32), under the model's finite schedules (notes/assumptions/1). -/
def Obligations.CommandInFlightEnds : Prop :=
  ∀ (s : State) (l : InFlight), s.inflight = some l →
    ∃ k t, k ≤ s.schedule.length + 1 ∧ Sys2Proof.core.run k s = .next t ∧ t.inflight = none ∧
      ∀ j u, j < k → Sys2Proof.core.run j s = .next u → u.inflight = some l

/-- The invariants of STATUS and of the files it speaks of hold after every step of a state in which they
hold (R19, R29, R30). -/
def Obligations.StatusInvIsKept : Prop :=
  ∀ s t : State, StatusInv s → step s = .next t → StatusInv t

/-- Both invariants hold after reset, under both settings of SBOX_AFFINE (R19, R31, R36). -/
def Obligations.InvariantsHoldAtReset : Prop :=
  StatusInv State.reset ∧ ScheduleInv State.reset ∧
  ∀ p : SboxAffine, StatusInv (State.resetWith p) ∧ ScheduleInv (State.resetWith p)

/-- DKV and AKV keep saying that DRK and AW hold a schedule of some key (R31). -/
def Obligations.ScheduleInvIsKept : Prop :=
  ∀ s t : State, ScheduleInv s → step s = .next t → ScheduleInv t

/-- What a command writes does not depend on when the engine's step falls, nor on what the host does in the
meantime (R66, R235, R236): after any host accesses and then the engine's turn, the result registers, the
schedules and their flags are those of the engine's turn taken at once. -/
def Obligations.ResultsDoNotDependOnLatency : Prop :=
  ∀ (s : State) (l : InFlight) (accesses : List Access) (rest : List Turn) (t u : State),
    s.inflight = some l →
    Sys2Proof.core.run (accesses.length + 1)
      { s with schedule := accesses.map .host ++ .engine :: rest } = .next t →
    step { s with schedule := .engine :: rest } = .next u →
    t.dout = u.dout ∧ t.gfR = u.gfR ∧ t.pout = u.pout ∧ t.drk = u.drk ∧ t.aw = u.aw ∧
    t.dkv = u.dkv ∧ t.akv = u.akv ∧ t.anr = u.anr ∧ t.inflight = u.inflight ∧
    (s.done = false → t.done = u.done)

/-- The DES schedule and DKV change only by DES_KS, SRST or the hardware reset, the AES schedule, AKV and
ANR only by AES_KS, SRST or the hardware reset (R29 to R31, R237). -/
def Obligations.SchedulesChangeOnlyByKeyCommands : Prop :=
  ∀ s t : State, step s = .next t →
    (t.drk ≠ s.drk ∨ t.dkv ≠ s.dkv →
      (∃ rest, s.schedule = .reset :: rest) ∨
      ∃ l f, s.inflight = some l ∧ (decode l.cmd = .ok (.desKs f) ∨ decode l.cmd = .ok (.srst f))) ∧
    (t.aw ≠ s.aw ∨ t.akv ≠ s.akv ∨ t.anr ≠ s.anr →
      (∃ rest, s.schedule = .reset :: rest) ∨
      ∃ l f, s.inflight = some l ∧ (decode l.cmd = .ok (.aesKs f) ∨ decode l.cmd = .ok (.srst f)))

/-- A command writes no register but STATUS and those R75 lists for it, and leaves no command in flight,
whether it succeeds or fails. The model's own fields (the schedule, the last value read, the setting of
SBOX_AFFINE) stay; that SRST too leaves them is the model's choice (notes/assumptions/9). -/
def Obligations.CommandWritesOnlyItsRegisters : Prop :=
  ∀ (i : Instr) (s t : State), exec i s = .next t →
    t.inflight = none ∧ t.schedule = s.schedule ∧ t.rdata = s.rdata ∧ t.sboxAffine = s.sboxAffine ∧
    (∀ r, r ≠ .status → ¬ writtenOnSuccess i r → t.readReg r = s.readReg r) ∧
    ((∀ f, i ≠ .desKs f ∧ i ≠ .srst f) → t.dkv = s.dkv) ∧
    ((∀ f, i ≠ .aesKs f ∧ i ≠ .srst f) → t.akv = s.akv ∧ t.anr = s.anr)

/-- A command that does not set DONE ended with an error, and then nothing but ERR, ERRCODE and BUSY
changed (R201). -/
def Obligations.FailedCommandWritesOnlyStatus : Prop :=
  ∀ (i : Instr) (s t : State), exec i s = .next t →
    t.done = true ∨ ∃ code, code ≠ .none ∧ t = failedWith s code

/-! ### Errors of a command, in the order of R202 -/

/-- A nonzero RSV or must-be-zero field ends any command with RSVD, before any other check (R74, R202). -/
def Obligations.ReservedFieldsEndWithRsvd : Prop :=
  ∀ (i : Instr) (s : State) (l : InFlight), s.inflight = some l → reservedViolated i →
    exec i s = .next (failedWith s .rsvd)

/-- A length field out of its legal values ends the command with the error of R74, before the key is looked
at (R202). -/
def Obligations.LengthErrorsComeSecond : Prop :=
  ∀ (i : Instr) (s : State) (l : InFlight) (code : ErrCode), s.inflight = some l →
    ¬ reservedViolated i → lengthError i = some code → exec i s = .next (failedWith s code)

/-- A cipher command or AES_ARK without its key schedule ends with NOKEY (R200, R202). -/
def Obligations.MissingKeyComesThird : Prop :=
  ∀ (i : Instr) (s : State) (l : InFlight), s.inflight = some l →
    ¬ reservedViolated i → lengthError i = none → keyMissing s i → exec i s = .next (failedWith s .noKey)

/-- AES_ARK with a round index above ANR ends with ARGRANGE (R181, R202). -/
def Obligations.RoundIndexAboveAnrIsRefused : Prop :=
  ∀ (f : Args) (s : State) (l : InFlight), s.inflight = some l → ¬ reservedViolated (.aesArk f) →
    s.akv = true → s.anr.toNat < f.b.toNat → exec (.aesArk f) s = .next (failedWith s .argRange)

/-- PERM with a table entry out of range ends with PERMRANGE: base1 entries are 1 .. n, base0 entries
0 .. n-1, whatever the direction (R103, R104). -/
def Obligations.PermEntryOutOfRangeIsRefused : Prop :=
  ∀ (f : Args) (s : State) (l : InFlight), s.inflight = some l → ¬ reservedViolated (.perm f) →
    lengthError (.perm f) = none →
    (∃ e, e < f.a.toNat ∧ ¬ permEntryLegal f (l.snap.ptabEntry e)) →
    exec (.perm f) s = .next (failedWith s .permRange)

/-! ### What each command does -/

/-- NOP sets DONE, clears BUSY and does nothing else (R193). -/
def Obligations.NopOnlyCompletes : Prop :=
  ∀ (f : Args) (s : State) (l : InFlight), s.inflight = some l → ¬ reservedViolated (.nop f) →
    exec (.nop f) s = .next { s with done := true, inflight := none }

/-- SRST puts every register and file at its reset value and then sets DONE: STATUS reads 0x00000002, the
interrupt line is low (R194, R231). That the parameter SBOX_AFFINE, the schedule and the last value a read
returned, which are no state of the engine, stay is the model's choice (notes/assumptions/9). -/
def Obligations.SrstResetsAndSetsDone : Prop :=
  ∀ (f : Args) (s : State) (l : InFlight), s.inflight = some l → ¬ reservedViolated (.srst f) →
    ∃ t, exec (.srst f) s = .next t ∧ t.inflight = none ∧ t.irq = false ∧
      t.readReg .id = 0x41573131 ∧ t.readReg .status = 0x00000002 ∧
      (∀ r, r ≠ .id → r ≠ .status → t.readReg r = 0) ∧
      t.sboxAffine = s.sboxAffine ∧ t.schedule = s.schedule ∧ t.rdata = s.rdata

/-- DES_KS stores the schedule of KEY0 || KEY1 and sets DKV (R121). The schedule has sixteen round keys, and
bit j of round key i is the key bit that PC1 puts at the place which PC2 takes bit j from, after both halves
were rotated left by the sum of the first i + 1 shifts (R114 to R116, R118). -/
def Obligations.DesKsStoresTheSchedule : Prop :=
  (∀ (f : Args) (s : State) (l : InFlight), s.inflight = some l → ¬ reservedViolated (.desKs f) →
    f.a = 8 →
    ∃ t, exec (.desKs f) s = .next t ∧
      t.drk.toList = desKeySchedule (l.snap.key[0] ++ l.snap.key[1]) ∧
      t = { s with drk := t.drk, dkv := true, done := true, inflight := none }) ∧
  ∀ k : Block64, (desKeySchedule k).length = 16 ∧ ∀ (i : Fin 16) (j : Fin 48),
    let rotation := [1, 2, 4, 6, 8, 10, 12, 14, 15, 17, 19, 21, 23, 25, 27, 28].getD i.val 0
    let place := pc2Table.getD j.val 0 - 1
    let origin :=
      if place < 28 then (place + rotation) % 28 else 28 + (place - 28 + rotation) % 28
    ((desKeySchedule k).getD i.val 0).getMsbD j.val = k.getMsbD (pc1Table.getD origin 0 - 1)

/-- DES_ENC and DES_DEC transform DIN0 || DIN1 under the stored round keys, in order and in reverse order,
into DOUT0 and DOUT1, and write 0 to DOUT2 and DOUT3 (R122, R123). The transform takes the two halves of the
block permuted by IP through one round for each round key and permutes them by IP⁻¹, the right half first
(R120). -/
def Obligations.DesEncDecTransformTheBlock : Prop :=
  (∀ (f : Args) (s : State) (l : InFlight), s.inflight = some l → s.dkv = true → f.a = 8 →
    f.rsv = 0 → f.b = 0 → f.c = 0 →
    (∃ t, exec (.desEnc f) s = .next t ∧
      t.dout[0] ++ t.dout[1] = desProcess (l.snap.din[0] ++ l.snap.din[1]) s.drk.toList ∧
      t.dout[2] = 0 ∧ t.dout[3] = 0 ∧
      t = { s with dout := t.dout, done := true, inflight := none }) ∧
    (∃ t, exec (.desDec f) s = .next t ∧
      t.dout[0] ++ t.dout[1] = desProcess (l.snap.din[0] ++ l.snap.din[1]) s.drk.toList.reverse ∧
      t.dout[2] = 0 ∧ t.dout[3] = 0 ∧
      t = { s with dout := t.dout, done := true, inflight := none })) ∧
  ∀ (x : Block64) (ks : List RoundKey), ∃ left right : Nat → Word,
    (∀ j : Fin 64, (left 0 ++ right 0).getMsbD j.val = x.getMsbD (ipTable.getD j.val 0 - 1)) ∧
    (∀ i, i < ks.length →
      left (i + 1) = right i ∧ right (i + 1) = left i ^^^ feistelF (right i) (ks.getD i 0)) ∧
    ∀ j : Fin 64, (desProcess x ks).getMsbD j.val =
      (right ks.length ++ left ks.length).getMsbD (ipInvTable.getD j.val 0 - 1)

/-- DES_F evaluates the f-function on DIN0 and DIN2[15:0] || DIN3, DES_S the substitution layer on
DIN2[15:0] || DIN3; the result goes to DOUT0, 0 to DOUT1 to DOUT3 (R125, R126). The f-function is the half
expanded by E and xored with the round key, through the substitution layer, permuted by P (R119). -/
def Obligations.DesFAndDesSGiveOneWord : Prop :=
  (∀ (f : Args) (s : State) (l : InFlight), s.inflight = some l →
    f.rsv = 0 → f.a = 0 → f.b = 0 → f.c = 0 →
    exec (.desF f) s = .next { s with
      dout := #v[feistelF l.snap.din[0] (l.snap.din[2].extractLsb' 0 16 ++ l.snap.din[3]), 0, 0, 0]
      done := true, inflight := none } ∧
    exec (.desS f) s = .next { s with
      dout := #v[sLayer (l.snap.din[2].extractLsb' 0 16 ++ l.snap.din[3]), 0, 0, 0]
      done := true, inflight := none }) ∧
  ∀ (r : Word) (k : RoundKey), ∃ x : BitVec 48,
    (∀ j : Fin 48, x.getMsbD j.val = (r.getMsbD (eTable.getD j.val 0 - 1) != k.getMsbD j.val)) ∧
    ∀ j : Fin 32, (feistelF r k).getMsbD j.val = (sLayer x).getMsbD (pTable.getD j.val 0 - 1)

/-- AES_KS with a key of nk = 4, 6 or 8 words stores the 4(Nr + 1) words of its expansion, 0 in the words
above, sets AKV and ANR = Nr = nk + 6 (R163, R175). -/
def Obligations.AesKsStoresTheExpansion : Prop :=
  ∀ (f : Args) (s : State) (l : InFlight) (nk : Nat), s.inflight = some l →
    ¬ reservedViolated (.aesKs f) → (nk = 4 ∨ nk = 6 ∨ nk = 8) → f.a.toNat = 4 * nk →
    ∃ t, exec (.aesKs f) s = .next t ∧ t.anr.toNat = nk + 6 ∧
      (∀ i : Fin 60, i.val < 4 * (nk + 7) →
        (aesKeySchedule s.sboxAffine nk (l.snap.key.toList.take nk))[i.val]? = some t.aw[i]) ∧
      (∀ i : Fin 60, 4 * (nk + 7) ≤ i.val → t.aw[i] = 0) ∧
      t = { s with aw := t.aw, akv := true, anr := t.anr, done := true, inflight := none }

/-- AES_ENC and AES_DEC transform DIN0 to DIN3 under the stored schedule with ANR rounds into DOUT0 to
DOUT3 (R176, R177). Encryption with n + 1 rounds adds round key 0, runs rounds 1 to n with MixColumns and a
last one without it (R172); decryption adds round key n + 1, undoes rounds n to 1, and ends with round key 0
(R173). -/
def Obligations.AesEncDecTransformTheBlock : Prop :=
  (∀ (f : Args) (s : State) (l : InFlight), s.inflight = some l → s.akv = true → f.a = 16 →
    f.rsv = 0 → f.b = 0 → f.c = 0 →
    exec (.aesEnc f) s = .next { s with
      dout := aesEncrypt s.sboxAffine s.scheduleWord s.anr.toNat l.snap.din
      done := true, inflight := none } ∧
    exec (.aesDec f) s = .next { s with
      dout := aesDecrypt s.sboxAffine s.scheduleWord s.anr.toNat l.snap.din
      done := true, inflight := none }) ∧
  ∀ (p : SboxAffine) (w : Nat → Word) (n : Nat) (q : Vector Word 4),
    (∃ m : Nat → CipherState, m 0 = addRoundKey w 0 (toState q) ∧
      (∀ r, r < n → m (r + 1) = addRoundKey w (r + 1) (mixColumns (shiftRows (subBytes p (m r))))) ∧
      aesEncrypt p w (n + 1) q = fromState (addRoundKey w (n + 1) (shiftRows (subBytes p (m n))))) ∧
    ∃ m : Nat → CipherState, m 0 = addRoundKey w (n + 1) (toState q) ∧
      (∀ r, r < n →
        m (r + 1) = invMixColumns (addRoundKey w (n - r) (invSubBytes p (invShiftRows (m r))))) ∧
      aesDecrypt p w (n + 1) q = fromState (addRoundKey w 0 (invSubBytes p (invShiftRows (m n))))

/-- AES_SB and AES_ISB replace every byte of DIN by its S-box and its inverse S-box entry (R165, R169,
R178, R182). -/
def Obligations.AesSbIsbSubstituteEveryByte : Prop :=
  ∀ (f : Args) (s : State) (l : InFlight), s.inflight = some l →
    f.rsv = 0 → f.a = 0 → f.b = 0 → f.c = 0 →
    (∃ t, exec (.aesSb f) s = .next t ∧
      (∀ r c : Fin 4, wordByte t.dout[c] r = sboxOf s.sboxAffine (wordByte l.snap.din[c] r)) ∧
      t = { s with dout := t.dout, done := true, inflight := none }) ∧
    (∃ t, exec (.aesIsb f) s = .next t ∧
      (∀ r c : Fin 4, wordByte t.dout[c] r = isboxOf s.sboxAffine (wordByte l.snap.din[c] r)) ∧
      t = { s with dout := t.dout, done := true, inflight := none })

/-- AES_SR rotates row r of DIN left by r columns, AES_ISR right by r columns; row r is byte r of each
register, byte 0 the most significant (R52), and the column sums are mod 4 (R166, R170, R179, R183). -/
def Obligations.AesSrIsrRotateRows : Prop :=
  (∀ w : Word, w = wordByte w 0 ++ wordByte w 1 ++ wordByte w 2 ++ wordByte w 3) ∧
  ∀ (f : Args) (s : State) (l : InFlight), s.inflight = some l →
    f.rsv = 0 → f.a = 0 → f.b = 0 → f.c = 0 →
    (∃ t, exec (.aesSr f) s = .next t ∧
      (∀ r c : Fin 4, wordByte t.dout[c] r = wordByte l.snap.din[c + r] r) ∧
      t = { s with dout := t.dout, done := true, inflight := none }) ∧
    (∃ t, exec (.aesIsr f) s = .next t ∧
      (∀ r c : Fin 4, wordByte t.dout[c] r = wordByte l.snap.din[c - r] r) ∧
      t = { s with dout := t.dout, done := true, inflight := none })

/-- AES_MC and AES_IMC multiply every column of DIN by the circulant matrices with first rows
02 03 01 01 and 0E 0B 0D 09 (R167, R171, R180, R184). -/
def Obligations.AesMcImcMixColumns : Prop :=
  ∀ (f : Args) (s : State) (l : InFlight), s.inflight = some l →
    f.rsv = 0 → f.a = 0 → f.b = 0 → f.c = 0 →
    (∃ t, exec (.aesMc f) s = .next t ∧
      (∀ r c : Fin 4, wordByte t.dout[c] r =
        gmul 0x02 (wordByte l.snap.din[c] r) ^^^ gmul 0x03 (wordByte l.snap.din[c] (r + 1)) ^^^
        wordByte l.snap.din[c] (r + 2) ^^^ wordByte l.snap.din[c] (r + 3)) ∧
      t = { s with dout := t.dout, done := true, inflight := none }) ∧
    (∃ t, exec (.aesImc f) s = .next t ∧
      (∀ r c : Fin 4, wordByte t.dout[c] r =
        gmul 0x0E (wordByte l.snap.din[c] r) ^^^ gmul 0x0B (wordByte l.snap.din[c] (r + 1)) ^^^
        gmul 0x0D (wordByte l.snap.din[c] (r + 2)) ^^^ gmul 0x09 (wordByte l.snap.din[c] (r + 3))) ∧
      t = { s with dout := t.dout, done := true, inflight := none })

/-- AES_ARK xors DIN with the four words of round key B, in a state that meets the STATUS invariants (then
ANR is at most 14 and the words exist) (R168, R181). -/
def Obligations.AesArkXorsTheRoundKey : Prop :=
  ∀ (f : Args) (s : State) (l : InFlight), StatusInv s → s.inflight = some l →
    ¬ reservedViolated (.aesArk f) → s.akv = true → f.b.toNat ≤ s.anr.toNat →
    ∃ t, exec (.aesArk f) s = .next t ∧
      (∀ c : Fin 4, s.aw[4 * f.b.toNat + c.val]? = some (t.dout[c] ^^^ l.snap.din[c])) ∧
      t = { s with dout := t.dout, done := true, inflight := none }

/-- The GF commands write the sum, the product, the inverse, and the S-box and inverse S-box entry of
their operands to GF_R, and nothing else (R150 to R154). -/
def Obligations.GfCommandsWriteGfR : Prop :=
  ∀ (f : Args) (s : State) (l : InFlight), s.inflight = some l →
    f.rsv = 0 → f.a = 0 → f.b = 0 → f.c = 0 →
    exec (.gfAdd f) s = .next { s with gfR := l.snap.gfA ^^^ l.snap.gfB, done := true, inflight := none } ∧
    exec (.gfMul f) s = .next { s with gfR := gmul l.snap.gfA l.snap.gfB, done := true, inflight := none } ∧
    exec (.gfInv f) s = .next { s with gfR := ginv l.snap.gfA, done := true, inflight := none } ∧
    exec (.sbox f) s = .next { s with
      gfR := sboxOf s.sboxAffine l.snap.gfA, done := true, inflight := none } ∧
    exec (.isbox f) s = .next { s with
      gfR := isboxOf s.sboxAffine l.snap.gfA, done := true, inflight := none }

/-- PERM with legal lengths and entries writes the m selected bits of PIN to positions 0 .. m-1 of POUT and
0 to the positions from m on (R27, R100, R104); table entry 4k + j is byte j of PTABk (R28). -/
def Obligations.PermSelectsBits : Prop :=
  ∀ (f : Args) (s : State) (l : InFlight), s.inflight = some l → ¬ reservedViolated (.perm f) →
    lengthError (.perm f) = none →
    (∀ e, e < f.a.toNat → permEntryLegal f (l.snap.ptabEntry e)) →
    ∃ t, exec (.perm f) s = .next t ∧
      (∀ i : Nat, i < f.a.toNat → (t.pout[0] ++ t.pout[1]).getMsbD i
        = (l.snap.pin[0] ++ l.snap.pin[1]).getMsbD (permSource f (l.snap.ptabEntry i))) ∧
      (∀ i : Nat, f.a.toNat ≤ i → (t.pout[0] ++ t.pout[1]).getMsbD i = false) ∧
      (∀ (k : Fin 16) (j : Fin 4), l.snap.ptabEntry (4 * k.val + j.val) = (wordByte l.snap.ptab[k] j).toNat) ∧
      t = { s with pout := t.pout, done := true, inflight := none }

/-! ### The algorithms -/

/-- R103: permute fails exactly when an entry is out of range, with base1 entries outside 1 .. n and with
base0 entries outside 0 .. n-1, whatever the direction. -/
def Obligations.PermuteFailsOnBadEntry : Prop :=
  ∀ (table : List Nat) (w : Nat) (x : BitVec w) (n : Nat) (dir : Dir),
    (permute table x n .base1 dir = none ↔ ∃ t ∈ table, ¬ (1 ≤ t ∧ t ≤ n)) ∧
    (permute table x n .base0 dir = none ↔ ∃ t ∈ table, ¬ t < n)

/-- R106: a permutation table and its inverse undo each other, and IP and IP⁻¹ are such a pair. -/
def Obligations.InversePermutationsCancel : Prop :=
  (∀ (n : Nat) (table inverse : List Nat), isPermutationTable n table → inverse.length = n →
    (∀ i, i < n → inverse.getD (table.getD i 0 - 1) 0 = i + 1) →
    ∀ x : BitVec n, perm n table (perm n inverse x) = x ∧ perm n inverse (perm n table x) = x) ∧
  isPermutationTable 64 ipTable ∧ ipInvTable.length = 64 ∧
  (∀ i, i < 64 → ipInvTable.getD (ipTable.getD i 0 - 1) 0 = i + 1)

/-- Decryption is the block transform with the round keys in reverse order: for every block and every
sequence of round keys the one undoes the other, so for the schedule of every key (R124). -/
def Obligations.DesDecryptUndoesEncrypt : Prop :=
  ∀ (x : Block64) (ks : List RoundKey),
    desProcess (desProcess x ks) ks.reverse = x ∧ desProcess (desProcess x ks.reverse) ks = x

/-- The parity bits, bit 0 of every key byte, do not affect the DES schedule (R114, R121). -/
def Obligations.DesParityBitsDoNotMatter : Prop :=
  ∀ k : Block64, desKeySchedule (k ^^^ 0x0101010101010101) = desKeySchedule k ∧
    ∀ j : Fin 8, desKeySchedule (k ^^^ (1#64 <<< (8 * j.val))) = desKeySchedule k

/-- The substitution layer, box by box: output bits 4j .. 4j+3 are the entry of box j+1 in the row of the
outer and the column of the middle bits of input bits 6j .. 6j+5 (R117). -/
def Obligations.SLayerBoxByBox : Prop :=
  ∀ (x : BitVec 48) (j : Fin 8),
    ((sLayer x).extractLsb' (28 - 4 * j.val) 4).toNat =
      (([s1Box, s2Box, s3Box, s4Box, s5Box, s6Box, s7Box, s8Box].getD j.val []).getD
        (2 * (x.getMsbD (6 * j.val)).toNat + (x.getMsbD (6 * j.val + 5)).toNat) []).getD
        (8 * (x.getMsbD (6 * j.val + 1)).toNat + 4 * (x.getMsbD (6 * j.val + 2)).toNat
          + 2 * (x.getMsbD (6 * j.val + 3)).toNat + (x.getMsbD (6 * j.val + 4)).toNat) 0

/-- R164: the expansion has 4(Nr + 1) words, the first nk are the key, and each later word is the word nk
back xored with the previous word, which is rotated, substituted and combined with the round constant on an
nk-word boundary, and only substituted at i mod 8 = 4 for nk = 8. Substitution is byte by byte, rotation is
by one byte to the left (R162), and each round constant is twice the one before (R161). -/
def Obligations.KeyExpansionRecurrence : Prop :=
  (∀ (p : SboxAffine) (nk : Nat) (key : List Word), (nk = 4 ∨ nk = 6 ∨ nk = 8) → key.length = nk →
    (aesKeySchedule p nk key).length = 4 * (nk + 6 + 1) ∧
    (∀ i, i < nk → (aesKeySchedule p nk key).getD i 0 = key.getD i 0) ∧
    ∀ i, nk ≤ i → i < 4 * (nk + 6 + 1) →
      (aesKeySchedule p nk key).getD i 0 = (aesKeySchedule p nk key).getD (i - nk) 0 ^^^
        (if i % nk = 0 then
          subWord p (rotWord ((aesKeySchedule p nk key).getD (i - 1) 0)) ^^^
            ((rcon (i / nk)).setWidth 32 <<< 24)
        else if nk = 8 ∧ i % nk = 4 then subWord p ((aesKeySchedule p nk key).getD (i - 1) 0)
        else (aesKeySchedule p nk key).getD (i - 1) 0)) ∧
  (∀ (p : SboxAffine) (w : Word) (r : Fin 4), wordByte (subWord p w) r = sboxOf p (wordByte w r) ∧
    wordByte (rotWord w) r = wordByte w (r + 1)) ∧
  rcon 1 = 0x01 ∧ ∀ j : Fin 9, rcon (j.val + 2) = gmul (rcon (j.val + 1)) 0x02

/-- AES decryption and encryption under the same schedule words and round count undo each other, under both
settings of SBOX_AFFINE (R174). -/
def Obligations.AesDecryptUndoesEncrypt : Prop :=
  ∀ (p : SboxAffine) (w : Nat → Word) (nr : Nat) (q : Vector Word 4),
    aesDecrypt p w nr (aesEncrypt p w nr q) = q ∧ aesEncrypt p w nr (aesDecrypt p w nr q) = q

/-- InvMixColumns undoes MixColumns, and the other way round, for every state (R171). -/
def Obligations.InvMixColumnsUndoesMixColumns : Prop :=
  ∀ m : CipherState, invMixColumns (mixColumns m) = m ∧ mixColumns (invMixColumns m) = m

/-- The laws of R144: sums, products and inverses in the field. -/
def Obligations.FieldLaws : Prop :=
  (∀ a : Byte, gadd a a = 0 ∧ gmul a 1 = a ∧ gmul a 0 = 0 ∧ ginv (ginv a) = a) ∧
  (∀ a : Byte, a ≠ 0 → gmul a (ginv a) = 1) ∧
  (∀ a b : Byte, gmul a b = gmul b a) ∧
  (∀ a b c : Byte, gmul a (gmul b c) = gmul (gmul a b) c) ∧
  (∀ a b c : Byte, gmul a (gadd b c) = gadd (gmul a b) (gmul a c))

/-- `ginv` is the inverse: 0 for 0, else the one byte whose product with a is 1 (R143). -/
def Obligations.InverseIsTheOneByte : Prop :=
  ginv 0 = 0 ∧ ∀ a b : Byte, a ≠ 0 → (gmul a b = 1 ↔ b = ginv a)

/-- The S-box tables are what R145 computes from the field inverse, under both settings. -/
def Obligations.SboxIsInverseThenAffine : Prop :=
  ∀ x : Byte, sboxOf .constOnly x = ginv x ^^^ 0x63 ∧
    sboxOf .fips197 x = (ginv x ^^^ (ginv x).rotateLeft 1 ^^^ (ginv x).rotateLeft 2
      ^^^ (ginv x).rotateLeft 3 ^^^ (ginv x).rotateLeft 4) ^^^ 0x63

/-- ISBOX is the inverse table of SBOX, under both settings, and under CONST_ONLY it is ginv(y xor 0x63)
(R146). -/
def Obligations.IsboxUndoesSbox : Prop :=
  (∀ (p : SboxAffine) (x : Byte), isboxOf p (sboxOf p x) = x ∧ sboxOf p (isboxOf p x) = x) ∧
  ∀ y : Byte, isboxOf .constOnly y = ginv (y ^^^ 0x63)
end

