-- ==== Sys2Proof/Laws/Bits.lean ====
section
/-! SUPPORT. What the bit-string operations, `permute`, the byte matrix and the key expansion can do, said
once: provers cite these and need not unfold the definitions. -/

namespace Sys2Proof.Machine

/-- The bits of the number a bit string stands for, counted from its last position (R8). -/
theorem testBit_bitNumber (ys : List Bool) (k : Nat) :
    (bitNumber ys).testBit k = ys.reverse.getD k false := by
  induction ys using List.reverseRecOn generalizing k with
  | nil => simp [bitNumber]
  | append_singleton ys y ih =>
    have e : bitNumber (ys ++ [y]) = 2 * bitNumber ys + y.toNat := by simp [bitNumber]
    rw [e]
    cases k with
    | zero => cases y <;> simp
    | succ k =>
      have h : (2 * bitNumber ys + y.toNat) / 2 = bitNumber ys := by
        have := y.toNat_lt
        omega
      rw [Nat.testBit_succ, h, ih]
      simp

/-- Bit k of a register value made from a bit string. -/
theorem getLsbD_bitString (w : Nat) (ys : List Bool) (k : Nat) :
    (bitString w ys).getLsbD k = (decide (k < w) && ys.reverse.getD k false) := by
  rw [bitString, BitVec.getLsbD_ofNat, testBit_bitNumber]

/-- Position i of a register value made from a bit string of its own length (R8). -/
theorem getMsbD_bitString (ys : List Bool) (w i : Nat) (hw : ys.length = w) (h : i < w) :
    (bitString w ys).getMsbD i = ys.getD i false := by
  have hi : i < ys.length := by omega
  simp only [BitVec.getMsbD, getLsbD_bitString]
  simp only [List.getD_eq_getElem?_getD]
  rw [List.getElem?_reverse (by omega)]
  have e : ys.length - 1 - (w - 1 - i) = i := by omega
  simp [e, h]
  omega

/-- A table entry selects a position of the input (R100). -/
theorem sourcePos_lt {n : Nat} {base : Base} {dir : Dir} {t k : Nat}
    (h : sourcePos n base dir t = some k) : k < n := by
  unfold sourcePos at h
  split at h
  · cases h
  · split at h
    · cases dir <;> simp at h <;> omega
    · cases h

/-- A base1, asc entry is in range exactly when it is 1 .. n, and selects position t - 1 (R100, R103). -/
theorem sourcePos_base1_asc (n t : Nat) :
    sourcePos n .base1 .asc t = if 1 ≤ t ∧ t ≤ n then some (t - 1) else none := by
  unfold sourcePos entryIndex
  by_cases h0 : t = 0
  · simp [h0]
  · by_cases h1 : t ≤ n
    · have : t - 1 < n := by omega
      have : 1 ≤ t := by omega
      simp [*]
    · have : ¬ t - 1 < n := by omega
      simp [*]

/-- Everything `permute` can do (R100, R101, R103): it answers exactly when every entry is in range, and
then output position i is the input position that entry i selects. -/
theorem permute_eq (table : List Nat) {w : Nat} (x : BitVec w) (n : Nat) (base : Base) (dir : Dir) :
    permute table x n base dir
      = if ∀ t ∈ table, (sourcePos n base dir t).isSome = true
        then some (table.map fun t => x.getMsbD ((sourcePos n base dir t).getD 0))
        else none := by
  induction table with
  | nil => simp [permute]
  | cons t ts ih =>
    simp only [permute, ih, List.forall_mem_cons]
    cases h : sourcePos n base dir t with
    | none => simp
    | some k =>
      by_cases h2 : ∀ t ∈ ts, (sourcePos n base dir t).isSome = true
      · simp only [if_pos h2, Option.isSome_some, true_and, List.map_cons, h, Option.getD_some]
      · simp only [if_neg h2, Option.isSome_some, true_and]

/-- `perm` with a table in range: output position i is input position T[i] - 1 (R105). -/
theorem getMsbD_perm {n m : Nat} (table : List Nat) (x : BitVec n) (hm : table.length = m)
    (hr : ∀ t ∈ table, 1 ≤ t ∧ t ≤ n) (i : Nat) (hi : i < m) :
    (perm m table x).getMsbD i = x.getMsbD (table.getD i 0 - 1) := by
  have hall : ∀ t ∈ table, (sourcePos n .base1 .asc t).isSome = true := by
    intro t ht; simp [sourcePos_base1_asc, hr t ht]
  have hi' : i < table.length := by omega
  simp only [perm, permute_eq, if_pos hall, Option.getD_some]
  rw [getMsbD_bitString _ _ _ (by simpa using hm) hi]
  have ht := hr _ (List.getElem_mem hi')
  simp [List.getD_eq_getElem?_getD, hi', sourcePos_base1_asc, ht]

/-- The tables of R110 to R115 are in range for their inputs (R105), with the lengths the rules give. -/
theorem desTables_inRange :
    (ipTable.length = 64 ∧ ∀ t ∈ ipTable, 1 ≤ t ∧ t ≤ 64) ∧
    (ipInvTable.length = 64 ∧ ∀ t ∈ ipInvTable, 1 ≤ t ∧ t ≤ 64) ∧
    (eTable.length = 48 ∧ ∀ t ∈ eTable, 1 ≤ t ∧ t ≤ 32) ∧
    (pTable.length = 32 ∧ ∀ t ∈ pTable, 1 ≤ t ∧ t ≤ 32) ∧
    (pc1Table.length = 56 ∧ ∀ t ∈ pc1Table, 1 ≤ t ∧ t ≤ 64) ∧
    (pc2Table.length = 48 ∧ ∀ t ∈ pc2Table, 1 ≤ t ∧ t ≤ 56) := by
  decide

/-- Item i of the four items `f` gives. -/
@[simp] theorem Quad.get_of {α : Type} (f : Fin 4 → α) (i : Fin 4) : (Quad.of f).get i = f i := by
  fin_cases i <;> rfl

/-- Entry (r, c) of a matrix given by its entries. -/
@[simp] theorem cell_matrix (f : Fin 4 → Fin 4 → Byte) (r c : Fin 4) : cell (matrix f) r c = f r c := by
  simp [cell, matrix]

/-- Two quads with the same items are equal. -/
theorem Quad.ext_get {α : Type} (p q : Quad α) (h : ∀ i, p.get i = q.get i) : p = q := by
  obtain ⟨a0, a1, a2, a3⟩ := p
  obtain ⟨b0, b1, b2, b3⟩ := q
  have h0 := h 0; have h1 := h 1; have h2 := h 2; have h3 := h 3
  simp only [Quad.get] at h0 h1 h2 h3
  subst h0 h1 h2 h3
  rfl

/-- Two matrices with the same entries are equal. -/
theorem cipherState_ext (m n : CipherState) (h : ∀ r c, cell m r c = cell n r c) : m = n :=
  Quad.ext_get _ _ fun r => Quad.ext_get _ _ fun c => h r c

/-- The entries of a loaded block (R160). -/
@[simp] theorem cell_toState (q : Vector Word 4) (r c : Fin 4) :
    cell (toState q) r c = wordByte q[c] r := by
  simp [toState]

/-- Register c of a stored matrix is column c (R160). -/
@[simp] theorem fromState_get (m : CipherState) (c : Fin 4) : (fromState m)[c] = column m c := by
  fin_cases c <;> rfl

/-- Byte r of a column is the entry of row r (R53). -/
@[simp] theorem wordByte_column (m : CipherState) (r c : Fin 4) : wordByte (column m c) r = cell m r c := by
  have hr : r = 0 ∨ r = 1 ∨ r = 2 ∨ r = 3 := by omega
  apply BitVec.eq_of_getLsbD_eq
  intro i hi
  rcases hr with rfl | rfl | rfl | rfl <;>
    simp only [wordByte, column, BitVec.getLsbD_append, BitVec.getLsbD_extractLsb']
  · have h0 : ¬ 24 + i < 8 := by omega
    have h1 : ¬ 24 + i - 8 < 8 := by omega
    have h2 : ¬ 24 + i - 8 - 8 < 8 := by omega
    have e : 24 + i - 8 - 8 - 8 = i := by omega
    simp [hi, h0, h1, h2, e]
  · have h0 : ¬ 16 + i < 8 := by omega
    have h1 : ¬ 16 + i - 8 < 8 := by omega
    have e : 16 + i - 8 - 8 = i := by omega
    simp [hi, h0, h1, e]
  · have h0 : ¬ 8 + i < 8 := by omega
    have e : 8 + i - 8 = i := by omega
    simp [hi, h0, e]
  · simp [hi]

/-- A word is the concatenation of its four bytes (R53). -/
theorem word_of_bytes (w : Word) : wordByte w 0 ++ wordByte w 1 ++ wordByte w 2 ++ wordByte w 3 = w := by
  apply BitVec.eq_of_getLsbD_eq
  intro i hi
  simp only [wordByte, BitVec.getLsbD_append, BitVec.getLsbD_extractLsb']
  by_cases h0 : i < 8
  · simp [h0]
  · by_cases h1 : i - 8 < 8
    · simp [h0, h1]; congr 1; omega
    · by_cases h2 : i - 8 - 8 < 8
      · simp [h0, h1, h2]; congr 1; omega
      · have h3 : i - 8 - 8 - 8 < 8 := by omega
        simp [h0, h1, h2, h3]; congr 1; omega

/-- Loading and storing a block undo each other (R160). -/
@[simp] theorem toState_fromState (m : CipherState) : toState (fromState m) = m :=
  cipherState_ext _ _ fun r c => by rw [cell_toState, fromState_get, wordByte_column]

/-- Storing and loading a block undo each other (R160). -/
@[simp] theorem fromState_toState (q : Vector Word 4) : fromState (toState q) = q := by
  apply Vector.ext
  intro i hi
  have h := fromState_get (toState q) ⟨i, hi⟩
  simp only [Fin.getElem_fin] at h
  rw [h, column]
  simp only [cell_toState]
  exact word_of_bytes _

/-- The number of words of a key expansion (R164). -/
@[simp] theorem expandKey_length (p : SboxAffine) (nk n : Nat) (w : List Word) :
    (expandKey p nk n w).length = w.length + n := by
  induction n generalizing w with
  | zero => simp [expandKey]
  | succ n ih => simp [expandKey, ih]; omega

/-- Key expansion keeps the words it starts from (R164). -/
theorem expandKey_append (p : SboxAffine) (nk n : Nat) (w : List Word) :
    ∃ v, v.length = n ∧ expandKey p nk n w = w ++ v := by
  induction n generalizing w with
  | zero => exact ⟨[], rfl, by simp [expandKey]⟩
  | succ n ih =>
    obtain ⟨v, hv, he⟩ := ih (w ++ [nextKeyWord p nk w])
    exact ⟨nextKeyWord p nk w :: v, by simp [hv], by simp [expandKey, he]⟩

/-- One round key per rotation amount (R118). -/
@[simp] theorem roundKeysFrom_length (ns : List Nat) (c d : BitVec 28) :
    (roundKeysFrom ns c d).length = ns.length := by
  induction ns generalizing c d with
  | nil => rfl
  | cons n ns ih => simp [roundKeysFrom, ih]

/-- The DES key schedule has sixteen round keys (R118). -/
@[simp] theorem desKeySchedule_length (k : Block64) : (desKeySchedule k).length = 16 := by
  simp [desKeySchedule, shifts]

end Sys2Proof.Machine
end

