-- ==== Sys2Proof/Laws/State.lean ====
section
/-! SUPPORT. One lemma per field per named update of State, each true by rfl: the field the update writes
reads its new value, every other field is as before. -/

namespace Sys2Proof.Machine

variable (s : State)

@[simp] theorem State.resetWith_doneIe (p : SboxAffine) : (State.resetWith p).doneIe = false := rfl
@[simp] theorem State.resetWith_errIe (p : SboxAffine) : (State.resetWith p).errIe = false := rfl
@[simp] theorem State.resetWith_done (p : SboxAffine) : (State.resetWith p).done = false := rfl
@[simp] theorem State.resetWith_err (p : SboxAffine) : (State.resetWith p).err = false := rfl
@[simp] theorem State.resetWith_errCode (p : SboxAffine) : (State.resetWith p).errCode = .none := rfl
@[simp] theorem State.resetWith_dkv (p : SboxAffine) : (State.resetWith p).dkv = false := rfl
@[simp] theorem State.resetWith_akv (p : SboxAffine) : (State.resetWith p).akv = false := rfl
@[simp] theorem State.resetWith_anr (p : SboxAffine) : (State.resetWith p).anr = 0 := rfl
@[simp] theorem State.resetWith_din (p : SboxAffine) : (State.resetWith p).din = Vector.replicate 4 0 := rfl
@[simp] theorem State.resetWith_dout (p : SboxAffine) : (State.resetWith p).dout = Vector.replicate 4 0 := rfl
@[simp] theorem State.resetWith_key (p : SboxAffine) : (State.resetWith p).key = Vector.replicate 8 0 := rfl
@[simp] theorem State.resetWith_gfA (p : SboxAffine) : (State.resetWith p).gfA = 0 := rfl
@[simp] theorem State.resetWith_gfB (p : SboxAffine) : (State.resetWith p).gfB = 0 := rfl
@[simp] theorem State.resetWith_gfR (p : SboxAffine) : (State.resetWith p).gfR = 0 := rfl
@[simp] theorem State.resetWith_pin (p : SboxAffine) : (State.resetWith p).pin = Vector.replicate 2 0 := rfl
@[simp] theorem State.resetWith_pout (p : SboxAffine) : (State.resetWith p).pout = Vector.replicate 2 0 := rfl
@[simp] theorem State.resetWith_ptab (p : SboxAffine) : (State.resetWith p).ptab = Vector.replicate 16 0 := rfl
@[simp] theorem State.resetWith_drk (p : SboxAffine) : (State.resetWith p).drk = Vector.replicate 16 0 := rfl
@[simp] theorem State.resetWith_aw (p : SboxAffine) : (State.resetWith p).aw = Vector.replicate 60 0 := rfl
@[simp] theorem State.resetWith_inflight (p : SboxAffine) : (State.resetWith p).inflight = none := rfl
@[simp] theorem State.resetWith_sboxAffine (p : SboxAffine) : (State.resetWith p).sboxAffine = p := rfl
@[simp] theorem State.resetWith_schedule (p : SboxAffine) : (State.resetWith p).schedule = [] := rfl
@[simp] theorem State.resetWith_rdata (p : SboxAffine) : (State.resetWith p).rdata = 0 := rfl

@[simp] theorem State.raise_doneIe (c : ErrCode) : (s.raise c).doneIe = s.doneIe := rfl
@[simp] theorem State.raise_errIe (c : ErrCode) : (s.raise c).errIe = s.errIe := rfl
@[simp] theorem State.raise_done (c : ErrCode) : (s.raise c).done = s.done := rfl
@[simp] theorem State.raise_err (c : ErrCode) : (s.raise c).err = true := rfl
@[simp] theorem State.raise_errCode (c : ErrCode) : (s.raise c).errCode = c := rfl
@[simp] theorem State.raise_dkv (c : ErrCode) : (s.raise c).dkv = s.dkv := rfl
@[simp] theorem State.raise_akv (c : ErrCode) : (s.raise c).akv = s.akv := rfl
@[simp] theorem State.raise_anr (c : ErrCode) : (s.raise c).anr = s.anr := rfl
@[simp] theorem State.raise_din (c : ErrCode) : (s.raise c).din = s.din := rfl
@[simp] theorem State.raise_dout (c : ErrCode) : (s.raise c).dout = s.dout := rfl
@[simp] theorem State.raise_key (c : ErrCode) : (s.raise c).key = s.key := rfl
@[simp] theorem State.raise_gfA (c : ErrCode) : (s.raise c).gfA = s.gfA := rfl
@[simp] theorem State.raise_gfB (c : ErrCode) : (s.raise c).gfB = s.gfB := rfl
@[simp] theorem State.raise_gfR (c : ErrCode) : (s.raise c).gfR = s.gfR := rfl
@[simp] theorem State.raise_pin (c : ErrCode) : (s.raise c).pin = s.pin := rfl
@[simp] theorem State.raise_pout (c : ErrCode) : (s.raise c).pout = s.pout := rfl
@[simp] theorem State.raise_ptab (c : ErrCode) : (s.raise c).ptab = s.ptab := rfl
@[simp] theorem State.raise_drk (c : ErrCode) : (s.raise c).drk = s.drk := rfl
@[simp] theorem State.raise_aw (c : ErrCode) : (s.raise c).aw = s.aw := rfl
@[simp] theorem State.raise_inflight (c : ErrCode) : (s.raise c).inflight = s.inflight := rfl
@[simp] theorem State.raise_sboxAffine (c : ErrCode) : (s.raise c).sboxAffine = s.sboxAffine := rfl
@[simp] theorem State.raise_schedule (c : ErrCode) : (s.raise c).schedule = s.schedule := rfl
@[simp] theorem State.raise_rdata (c : ErrCode) : (s.raise c).rdata = s.rdata := rfl

@[simp] theorem State.clearErr_doneIe : (s.clearErr).doneIe = s.doneIe := rfl
@[simp] theorem State.clearErr_errIe : (s.clearErr).errIe = s.errIe := rfl
@[simp] theorem State.clearErr_done : (s.clearErr).done = s.done := rfl
@[simp] theorem State.clearErr_err : (s.clearErr).err = false := rfl
@[simp] theorem State.clearErr_errCode : (s.clearErr).errCode = .none := rfl
@[simp] theorem State.clearErr_dkv : (s.clearErr).dkv = s.dkv := rfl
@[simp] theorem State.clearErr_akv : (s.clearErr).akv = s.akv := rfl
@[simp] theorem State.clearErr_anr : (s.clearErr).anr = s.anr := rfl
@[simp] theorem State.clearErr_din : (s.clearErr).din = s.din := rfl
@[simp] theorem State.clearErr_dout : (s.clearErr).dout = s.dout := rfl
@[simp] theorem State.clearErr_key : (s.clearErr).key = s.key := rfl
@[simp] theorem State.clearErr_gfA : (s.clearErr).gfA = s.gfA := rfl
@[simp] theorem State.clearErr_gfB : (s.clearErr).gfB = s.gfB := rfl
@[simp] theorem State.clearErr_gfR : (s.clearErr).gfR = s.gfR := rfl
@[simp] theorem State.clearErr_pin : (s.clearErr).pin = s.pin := rfl
@[simp] theorem State.clearErr_pout : (s.clearErr).pout = s.pout := rfl
@[simp] theorem State.clearErr_ptab : (s.clearErr).ptab = s.ptab := rfl
@[simp] theorem State.clearErr_drk : (s.clearErr).drk = s.drk := rfl
@[simp] theorem State.clearErr_aw : (s.clearErr).aw = s.aw := rfl
@[simp] theorem State.clearErr_inflight : (s.clearErr).inflight = s.inflight := rfl
@[simp] theorem State.clearErr_sboxAffine : (s.clearErr).sboxAffine = s.sboxAffine := rfl
@[simp] theorem State.clearErr_schedule : (s.clearErr).schedule = s.schedule := rfl
@[simp] theorem State.clearErr_rdata : (s.clearErr).rdata = s.rdata := rfl

@[simp] theorem State.clearDone_doneIe : (s.clearDone).doneIe = s.doneIe := rfl
@[simp] theorem State.clearDone_errIe : (s.clearDone).errIe = s.errIe := rfl
@[simp] theorem State.clearDone_done : (s.clearDone).done = false := rfl
@[simp] theorem State.clearDone_err : (s.clearDone).err = s.err := rfl
@[simp] theorem State.clearDone_errCode : (s.clearDone).errCode = s.errCode := rfl
@[simp] theorem State.clearDone_dkv : (s.clearDone).dkv = s.dkv := rfl
@[simp] theorem State.clearDone_akv : (s.clearDone).akv = s.akv := rfl
@[simp] theorem State.clearDone_anr : (s.clearDone).anr = s.anr := rfl
@[simp] theorem State.clearDone_din : (s.clearDone).din = s.din := rfl
@[simp] theorem State.clearDone_dout : (s.clearDone).dout = s.dout := rfl
@[simp] theorem State.clearDone_key : (s.clearDone).key = s.key := rfl
@[simp] theorem State.clearDone_gfA : (s.clearDone).gfA = s.gfA := rfl
@[simp] theorem State.clearDone_gfB : (s.clearDone).gfB = s.gfB := rfl
@[simp] theorem State.clearDone_gfR : (s.clearDone).gfR = s.gfR := rfl
@[simp] theorem State.clearDone_pin : (s.clearDone).pin = s.pin := rfl
@[simp] theorem State.clearDone_pout : (s.clearDone).pout = s.pout := rfl
@[simp] theorem State.clearDone_ptab : (s.clearDone).ptab = s.ptab := rfl
@[simp] theorem State.clearDone_drk : (s.clearDone).drk = s.drk := rfl
@[simp] theorem State.clearDone_aw : (s.clearDone).aw = s.aw := rfl
@[simp] theorem State.clearDone_inflight : (s.clearDone).inflight = s.inflight := rfl
@[simp] theorem State.clearDone_sboxAffine : (s.clearDone).sboxAffine = s.sboxAffine := rfl
@[simp] theorem State.clearDone_schedule : (s.clearDone).schedule = s.schedule := rfl
@[simp] theorem State.clearDone_rdata : (s.clearDone).rdata = s.rdata := rfl

@[simp] theorem State.writeCtrl_doneIe (v : Word) : (s.writeCtrl v).doneIe = v.getLsbD 0 := rfl
@[simp] theorem State.writeCtrl_errIe (v : Word) : (s.writeCtrl v).errIe = v.getLsbD 1 := rfl
@[simp] theorem State.writeCtrl_done (v : Word) : (s.writeCtrl v).done = s.done := rfl
@[simp] theorem State.writeCtrl_err (v : Word) : (s.writeCtrl v).err = s.err := rfl
@[simp] theorem State.writeCtrl_errCode (v : Word) : (s.writeCtrl v).errCode = s.errCode := rfl
@[simp] theorem State.writeCtrl_dkv (v : Word) : (s.writeCtrl v).dkv = s.dkv := rfl
@[simp] theorem State.writeCtrl_akv (v : Word) : (s.writeCtrl v).akv = s.akv := rfl
@[simp] theorem State.writeCtrl_anr (v : Word) : (s.writeCtrl v).anr = s.anr := rfl
@[simp] theorem State.writeCtrl_din (v : Word) : (s.writeCtrl v).din = s.din := rfl
@[simp] theorem State.writeCtrl_dout (v : Word) : (s.writeCtrl v).dout = s.dout := rfl
@[simp] theorem State.writeCtrl_key (v : Word) : (s.writeCtrl v).key = s.key := rfl
@[simp] theorem State.writeCtrl_gfA (v : Word) : (s.writeCtrl v).gfA = s.gfA := rfl
@[simp] theorem State.writeCtrl_gfB (v : Word) : (s.writeCtrl v).gfB = s.gfB := rfl
@[simp] theorem State.writeCtrl_gfR (v : Word) : (s.writeCtrl v).gfR = s.gfR := rfl
@[simp] theorem State.writeCtrl_pin (v : Word) : (s.writeCtrl v).pin = s.pin := rfl
@[simp] theorem State.writeCtrl_pout (v : Word) : (s.writeCtrl v).pout = s.pout := rfl
@[simp] theorem State.writeCtrl_ptab (v : Word) : (s.writeCtrl v).ptab = s.ptab := rfl
@[simp] theorem State.writeCtrl_drk (v : Word) : (s.writeCtrl v).drk = s.drk := rfl
@[simp] theorem State.writeCtrl_aw (v : Word) : (s.writeCtrl v).aw = s.aw := rfl
@[simp] theorem State.writeCtrl_inflight (v : Word) : (s.writeCtrl v).inflight = s.inflight := rfl
@[simp] theorem State.writeCtrl_sboxAffine (v : Word) : (s.writeCtrl v).sboxAffine = s.sboxAffine := rfl
@[simp] theorem State.writeCtrl_schedule (v : Word) : (s.writeCtrl v).schedule = s.schedule := rfl
@[simp] theorem State.writeCtrl_rdata (v : Word) : (s.writeCtrl v).rdata = s.rdata := rfl

@[simp] theorem State.accept_doneIe (v : Word) : (s.accept v).doneIe = s.doneIe := rfl
@[simp] theorem State.accept_errIe (v : Word) : (s.accept v).errIe = s.errIe := rfl
@[simp] theorem State.accept_done (v : Word) : (s.accept v).done = false := rfl
@[simp] theorem State.accept_err (v : Word) : (s.accept v).err = false := rfl
@[simp] theorem State.accept_errCode (v : Word) : (s.accept v).errCode = .none := rfl
@[simp] theorem State.accept_dkv (v : Word) : (s.accept v).dkv = s.dkv := rfl
@[simp] theorem State.accept_akv (v : Word) : (s.accept v).akv = s.akv := rfl
@[simp] theorem State.accept_anr (v : Word) : (s.accept v).anr = s.anr := rfl
@[simp] theorem State.accept_din (v : Word) : (s.accept v).din = s.din := rfl
@[simp] theorem State.accept_dout (v : Word) : (s.accept v).dout = s.dout := rfl
@[simp] theorem State.accept_key (v : Word) : (s.accept v).key = s.key := rfl
@[simp] theorem State.accept_gfA (v : Word) : (s.accept v).gfA = s.gfA := rfl
@[simp] theorem State.accept_gfB (v : Word) : (s.accept v).gfB = s.gfB := rfl
@[simp] theorem State.accept_gfR (v : Word) : (s.accept v).gfR = s.gfR := rfl
@[simp] theorem State.accept_pin (v : Word) : (s.accept v).pin = s.pin := rfl
@[simp] theorem State.accept_pout (v : Word) : (s.accept v).pout = s.pout := rfl
@[simp] theorem State.accept_ptab (v : Word) : (s.accept v).ptab = s.ptab := rfl
@[simp] theorem State.accept_drk (v : Word) : (s.accept v).drk = s.drk := rfl
@[simp] theorem State.accept_aw (v : Word) : (s.accept v).aw = s.aw := rfl
@[simp] theorem State.accept_inflight (v : Word) : (s.accept v).inflight = some ⟨v, s.snapshot⟩ := rfl
@[simp] theorem State.accept_sboxAffine (v : Word) : (s.accept v).sboxAffine = s.sboxAffine := rfl
@[simp] theorem State.accept_schedule (v : Word) : (s.accept v).schedule = s.schedule := rfl
@[simp] theorem State.accept_rdata (v : Word) : (s.accept v).rdata = s.rdata := rfl

@[simp] theorem State.setDout_doneIe (q : Vector Word 4) : (s.setDout q).doneIe = s.doneIe := rfl
@[simp] theorem State.setDout_errIe (q : Vector Word 4) : (s.setDout q).errIe = s.errIe := rfl
@[simp] theorem State.setDout_done (q : Vector Word 4) : (s.setDout q).done = s.done := rfl
@[simp] theorem State.setDout_err (q : Vector Word 4) : (s.setDout q).err = s.err := rfl
@[simp] theorem State.setDout_errCode (q : Vector Word 4) : (s.setDout q).errCode = s.errCode := rfl
@[simp] theorem State.setDout_dkv (q : Vector Word 4) : (s.setDout q).dkv = s.dkv := rfl
@[simp] theorem State.setDout_akv (q : Vector Word 4) : (s.setDout q).akv = s.akv := rfl
@[simp] theorem State.setDout_anr (q : Vector Word 4) : (s.setDout q).anr = s.anr := rfl
@[simp] theorem State.setDout_din (q : Vector Word 4) : (s.setDout q).din = s.din := rfl
@[simp] theorem State.setDout_dout (q : Vector Word 4) : (s.setDout q).dout = q := rfl
@[simp] theorem State.setDout_key (q : Vector Word 4) : (s.setDout q).key = s.key := rfl
@[simp] theorem State.setDout_gfA (q : Vector Word 4) : (s.setDout q).gfA = s.gfA := rfl
@[simp] theorem State.setDout_gfB (q : Vector Word 4) : (s.setDout q).gfB = s.gfB := rfl
@[simp] theorem State.setDout_gfR (q : Vector Word 4) : (s.setDout q).gfR = s.gfR := rfl
@[simp] theorem State.setDout_pin (q : Vector Word 4) : (s.setDout q).pin = s.pin := rfl
@[simp] theorem State.setDout_pout (q : Vector Word 4) : (s.setDout q).pout = s.pout := rfl
@[simp] theorem State.setDout_ptab (q : Vector Word 4) : (s.setDout q).ptab = s.ptab := rfl
@[simp] theorem State.setDout_drk (q : Vector Word 4) : (s.setDout q).drk = s.drk := rfl
@[simp] theorem State.setDout_aw (q : Vector Word 4) : (s.setDout q).aw = s.aw := rfl
@[simp] theorem State.setDout_inflight (q : Vector Word 4) : (s.setDout q).inflight = s.inflight := rfl
@[simp] theorem State.setDout_sboxAffine (q : Vector Word 4) : (s.setDout q).sboxAffine = s.sboxAffine := rfl
@[simp] theorem State.setDout_schedule (q : Vector Word 4) : (s.setDout q).schedule = s.schedule := rfl
@[simp] theorem State.setDout_rdata (q : Vector Word 4) : (s.setDout q).rdata = s.rdata := rfl

@[simp] theorem State.setGfR_doneIe (x : Byte) : (s.setGfR x).doneIe = s.doneIe := rfl
@[simp] theorem State.setGfR_errIe (x : Byte) : (s.setGfR x).errIe = s.errIe := rfl
@[simp] theorem State.setGfR_done (x : Byte) : (s.setGfR x).done = s.done := rfl
@[simp] theorem State.setGfR_err (x : Byte) : (s.setGfR x).err = s.err := rfl
@[simp] theorem State.setGfR_errCode (x : Byte) : (s.setGfR x).errCode = s.errCode := rfl
@[simp] theorem State.setGfR_dkv (x : Byte) : (s.setGfR x).dkv = s.dkv := rfl
@[simp] theorem State.setGfR_akv (x : Byte) : (s.setGfR x).akv = s.akv := rfl
@[simp] theorem State.setGfR_anr (x : Byte) : (s.setGfR x).anr = s.anr := rfl
@[simp] theorem State.setGfR_din (x : Byte) : (s.setGfR x).din = s.din := rfl
@[simp] theorem State.setGfR_dout (x : Byte) : (s.setGfR x).dout = s.dout := rfl
@[simp] theorem State.setGfR_key (x : Byte) : (s.setGfR x).key = s.key := rfl
@[simp] theorem State.setGfR_gfA (x : Byte) : (s.setGfR x).gfA = s.gfA := rfl
@[simp] theorem State.setGfR_gfB (x : Byte) : (s.setGfR x).gfB = s.gfB := rfl
@[simp] theorem State.setGfR_gfR (x : Byte) : (s.setGfR x).gfR = x := rfl
@[simp] theorem State.setGfR_pin (x : Byte) : (s.setGfR x).pin = s.pin := rfl
@[simp] theorem State.setGfR_pout (x : Byte) : (s.setGfR x).pout = s.pout := rfl
@[simp] theorem State.setGfR_ptab (x : Byte) : (s.setGfR x).ptab = s.ptab := rfl
@[simp] theorem State.setGfR_drk (x : Byte) : (s.setGfR x).drk = s.drk := rfl
@[simp] theorem State.setGfR_aw (x : Byte) : (s.setGfR x).aw = s.aw := rfl
@[simp] theorem State.setGfR_inflight (x : Byte) : (s.setGfR x).inflight = s.inflight := rfl
@[simp] theorem State.setGfR_sboxAffine (x : Byte) : (s.setGfR x).sboxAffine = s.sboxAffine := rfl
@[simp] theorem State.setGfR_schedule (x : Byte) : (s.setGfR x).schedule = s.schedule := rfl
@[simp] theorem State.setGfR_rdata (x : Byte) : (s.setGfR x).rdata = s.rdata := rfl

@[simp] theorem State.setPout_doneIe (y : BitVec 64) : (s.setPout y).doneIe = s.doneIe := rfl
@[simp] theorem State.setPout_errIe (y : BitVec 64) : (s.setPout y).errIe = s.errIe := rfl
@[simp] theorem State.setPout_done (y : BitVec 64) : (s.setPout y).done = s.done := rfl
@[simp] theorem State.setPout_err (y : BitVec 64) : (s.setPout y).err = s.err := rfl
@[simp] theorem State.setPout_errCode (y : BitVec 64) : (s.setPout y).errCode = s.errCode := rfl
@[simp] theorem State.setPout_dkv (y : BitVec 64) : (s.setPout y).dkv = s.dkv := rfl
@[simp] theorem State.setPout_akv (y : BitVec 64) : (s.setPout y).akv = s.akv := rfl
@[simp] theorem State.setPout_anr (y : BitVec 64) : (s.setPout y).anr = s.anr := rfl
@[simp] theorem State.setPout_din (y : BitVec 64) : (s.setPout y).din = s.din := rfl
@[simp] theorem State.setPout_dout (y : BitVec 64) : (s.setPout y).dout = s.dout := rfl
@[simp] theorem State.setPout_key (y : BitVec 64) : (s.setPout y).key = s.key := rfl
@[simp] theorem State.setPout_gfA (y : BitVec 64) : (s.setPout y).gfA = s.gfA := rfl
@[simp] theorem State.setPout_gfB (y : BitVec 64) : (s.setPout y).gfB = s.gfB := rfl
@[simp] theorem State.setPout_gfR (y : BitVec 64) : (s.setPout y).gfR = s.gfR := rfl
@[simp] theorem State.setPout_pin (y : BitVec 64) : (s.setPout y).pin = s.pin := rfl
@[simp] theorem State.setPout_pout (y : BitVec 64) : (s.setPout y).pout = #v[y.extractLsb' 32 32, y.extractLsb' 0 32] := rfl
@[simp] theorem State.setPout_ptab (y : BitVec 64) : (s.setPout y).ptab = s.ptab := rfl
@[simp] theorem State.setPout_drk (y : BitVec 64) : (s.setPout y).drk = s.drk := rfl
@[simp] theorem State.setPout_aw (y : BitVec 64) : (s.setPout y).aw = s.aw := rfl
@[simp] theorem State.setPout_inflight (y : BitVec 64) : (s.setPout y).inflight = s.inflight := rfl
@[simp] theorem State.setPout_sboxAffine (y : BitVec 64) : (s.setPout y).sboxAffine = s.sboxAffine := rfl
@[simp] theorem State.setPout_schedule (y : BitVec 64) : (s.setPout y).schedule = s.schedule := rfl
@[simp] theorem State.setPout_rdata (y : BitVec 64) : (s.setPout y).rdata = s.rdata := rfl

@[simp] theorem State.setDesSchedule_doneIe (k : Vector RoundKey 16) : (s.setDesSchedule k).doneIe = s.doneIe := rfl
@[simp] theorem State.setDesSchedule_errIe (k : Vector RoundKey 16) : (s.setDesSchedule k).errIe = s.errIe := rfl
@[simp] theorem State.setDesSchedule_done (k : Vector RoundKey 16) : (s.setDesSchedule k).done = s.done := rfl
@[simp] theorem State.setDesSchedule_err (k : Vector RoundKey 16) : (s.setDesSchedule k).err = s.err := rfl
@[simp] theorem State.setDesSchedule_errCode (k : Vector RoundKey 16) : (s.setDesSchedule k).errCode = s.errCode := rfl
@[simp] theorem State.setDesSchedule_dkv (k : Vector RoundKey 16) : (s.setDesSchedule k).dkv = true := rfl
@[simp] theorem State.setDesSchedule_akv (k : Vector RoundKey 16) : (s.setDesSchedule k).akv = s.akv := rfl
@[simp] theorem State.setDesSchedule_anr (k : Vector RoundKey 16) : (s.setDesSchedule k).anr = s.anr := rfl
@[simp] theorem State.setDesSchedule_din (k : Vector RoundKey 16) : (s.setDesSchedule k).din = s.din := rfl
@[simp] theorem State.setDesSchedule_dout (k : Vector RoundKey 16) : (s.setDesSchedule k).dout = s.dout := rfl
@[simp] theorem State.setDesSchedule_key (k : Vector RoundKey 16) : (s.setDesSchedule k).key = s.key := rfl
@[simp] theorem State.setDesSchedule_gfA (k : Vector RoundKey 16) : (s.setDesSchedule k).gfA = s.gfA := rfl
@[simp] theorem State.setDesSchedule_gfB (k : Vector RoundKey 16) : (s.setDesSchedule k).gfB = s.gfB := rfl
@[simp] theorem State.setDesSchedule_gfR (k : Vector RoundKey 16) : (s.setDesSchedule k).gfR = s.gfR := rfl
@[simp] theorem State.setDesSchedule_pin (k : Vector RoundKey 16) : (s.setDesSchedule k).pin = s.pin := rfl
@[simp] theorem State.setDesSchedule_pout (k : Vector RoundKey 16) : (s.setDesSchedule k).pout = s.pout := rfl
@[simp] theorem State.setDesSchedule_ptab (k : Vector RoundKey 16) : (s.setDesSchedule k).ptab = s.ptab := rfl
@[simp] theorem State.setDesSchedule_drk (k : Vector RoundKey 16) : (s.setDesSchedule k).drk = k := rfl
@[simp] theorem State.setDesSchedule_aw (k : Vector RoundKey 16) : (s.setDesSchedule k).aw = s.aw := rfl
@[simp] theorem State.setDesSchedule_inflight (k : Vector RoundKey 16) : (s.setDesSchedule k).inflight = s.inflight := rfl
@[simp] theorem State.setDesSchedule_sboxAffine (k : Vector RoundKey 16) : (s.setDesSchedule k).sboxAffine = s.sboxAffine := rfl
@[simp] theorem State.setDesSchedule_schedule (k : Vector RoundKey 16) : (s.setDesSchedule k).schedule = s.schedule := rfl
@[simp] theorem State.setDesSchedule_rdata (k : Vector RoundKey 16) : (s.setDesSchedule k).rdata = s.rdata := rfl

@[simp] theorem State.setAesSchedule_doneIe (w : Vector Word 60) (nr : BitVec 4) : (s.setAesSchedule w nr).doneIe = s.doneIe := rfl
@[simp] theorem State.setAesSchedule_errIe (w : Vector Word 60) (nr : BitVec 4) : (s.setAesSchedule w nr).errIe = s.errIe := rfl
@[simp] theorem State.setAesSchedule_done (w : Vector Word 60) (nr : BitVec 4) : (s.setAesSchedule w nr).done = s.done := rfl
@[simp] theorem State.setAesSchedule_err (w : Vector Word 60) (nr : BitVec 4) : (s.setAesSchedule w nr).err = s.err := rfl
@[simp] theorem State.setAesSchedule_errCode (w : Vector Word 60) (nr : BitVec 4) : (s.setAesSchedule w nr).errCode = s.errCode := rfl
@[simp] theorem State.setAesSchedule_dkv (w : Vector Word 60) (nr : BitVec 4) : (s.setAesSchedule w nr).dkv = s.dkv := rfl
@[simp] theorem State.setAesSchedule_akv (w : Vector Word 60) (nr : BitVec 4) : (s.setAesSchedule w nr).akv = true := rfl
@[simp] theorem State.setAesSchedule_anr (w : Vector Word 60) (nr : BitVec 4) : (s.setAesSchedule w nr).anr = nr := rfl
@[simp] theorem State.setAesSchedule_din (w : Vector Word 60) (nr : BitVec 4) : (s.setAesSchedule w nr).din = s.din := rfl
@[simp] theorem State.setAesSchedule_dout (w : Vector Word 60) (nr : BitVec 4) : (s.setAesSchedule w nr).dout = s.dout := rfl
@[simp] theorem State.setAesSchedule_key (w : Vector Word 60) (nr : BitVec 4) : (s.setAesSchedule w nr).key = s.key := rfl
@[simp] theorem State.setAesSchedule_gfA (w : Vector Word 60) (nr : BitVec 4) : (s.setAesSchedule w nr).gfA = s.gfA := rfl
@[simp] theorem State.setAesSchedule_gfB (w : Vector Word 60) (nr : BitVec 4) : (s.setAesSchedule w nr).gfB = s.gfB := rfl
@[simp] theorem State.setAesSchedule_gfR (w : Vector Word 60) (nr : BitVec 4) : (s.setAesSchedule w nr).gfR = s.gfR := rfl
@[simp] theorem State.setAesSchedule_pin (w : Vector Word 60) (nr : BitVec 4) : (s.setAesSchedule w nr).pin = s.pin := rfl
@[simp] theorem State.setAesSchedule_pout (w : Vector Word 60) (nr : BitVec 4) : (s.setAesSchedule w nr).pout = s.pout := rfl
@[simp] theorem State.setAesSchedule_ptab (w : Vector Word 60) (nr : BitVec 4) : (s.setAesSchedule w nr).ptab = s.ptab := rfl
@[simp] theorem State.setAesSchedule_drk (w : Vector Word 60) (nr : BitVec 4) : (s.setAesSchedule w nr).drk = s.drk := rfl
@[simp] theorem State.setAesSchedule_aw (w : Vector Word 60) (nr : BitVec 4) : (s.setAesSchedule w nr).aw = w := rfl
@[simp] theorem State.setAesSchedule_inflight (w : Vector Word 60) (nr : BitVec 4) : (s.setAesSchedule w nr).inflight = s.inflight := rfl
@[simp] theorem State.setAesSchedule_sboxAffine (w : Vector Word 60) (nr : BitVec 4) : (s.setAesSchedule w nr).sboxAffine = s.sboxAffine := rfl
@[simp] theorem State.setAesSchedule_schedule (w : Vector Word 60) (nr : BitVec 4) : (s.setAesSchedule w nr).schedule = s.schedule := rfl
@[simp] theorem State.setAesSchedule_rdata (w : Vector Word 60) (nr : BitVec 4) : (s.setAesSchedule w nr).rdata = s.rdata := rfl

@[simp] theorem State.resetRegisters_doneIe : (s.resetRegisters).doneIe = false := rfl
@[simp] theorem State.resetRegisters_errIe : (s.resetRegisters).errIe = false := rfl
@[simp] theorem State.resetRegisters_done : (s.resetRegisters).done = false := rfl
@[simp] theorem State.resetRegisters_err : (s.resetRegisters).err = false := rfl
@[simp] theorem State.resetRegisters_errCode : (s.resetRegisters).errCode = .none := rfl
@[simp] theorem State.resetRegisters_dkv : (s.resetRegisters).dkv = false := rfl
@[simp] theorem State.resetRegisters_akv : (s.resetRegisters).akv = false := rfl
@[simp] theorem State.resetRegisters_anr : (s.resetRegisters).anr = 0 := rfl
@[simp] theorem State.resetRegisters_din : (s.resetRegisters).din = Vector.replicate 4 0 := rfl
@[simp] theorem State.resetRegisters_dout : (s.resetRegisters).dout = Vector.replicate 4 0 := rfl
@[simp] theorem State.resetRegisters_key : (s.resetRegisters).key = Vector.replicate 8 0 := rfl
@[simp] theorem State.resetRegisters_gfA : (s.resetRegisters).gfA = 0 := rfl
@[simp] theorem State.resetRegisters_gfB : (s.resetRegisters).gfB = 0 := rfl
@[simp] theorem State.resetRegisters_gfR : (s.resetRegisters).gfR = 0 := rfl
@[simp] theorem State.resetRegisters_pin : (s.resetRegisters).pin = Vector.replicate 2 0 := rfl
@[simp] theorem State.resetRegisters_pout : (s.resetRegisters).pout = Vector.replicate 2 0 := rfl
@[simp] theorem State.resetRegisters_ptab : (s.resetRegisters).ptab = Vector.replicate 16 0 := rfl
@[simp] theorem State.resetRegisters_drk : (s.resetRegisters).drk = Vector.replicate 16 0 := rfl
@[simp] theorem State.resetRegisters_aw : (s.resetRegisters).aw = Vector.replicate 60 0 := rfl
@[simp] theorem State.resetRegisters_inflight : (s.resetRegisters).inflight = none := rfl
@[simp] theorem State.resetRegisters_sboxAffine : (s.resetRegisters).sboxAffine = s.sboxAffine := rfl
@[simp] theorem State.resetRegisters_schedule : (s.resetRegisters).schedule = s.schedule := rfl
@[simp] theorem State.resetRegisters_rdata : (s.resetRegisters).rdata = s.rdata := rfl

@[simp] theorem State.writeStatus_doneIe (v : Word) : (s.writeStatus v).doneIe = s.doneIe := by
  unfold State.writeStatus; cases v.getLsbD 1 <;> cases v.getLsbD 2 <;> simp
@[simp] theorem State.writeStatus_errIe (v : Word) : (s.writeStatus v).errIe = s.errIe := by
  unfold State.writeStatus; cases v.getLsbD 1 <;> cases v.getLsbD 2 <;> simp
@[simp] theorem State.writeStatus_done (v : Word) : (s.writeStatus v).done = (s.done && !v.getLsbD 1) := by
  unfold State.writeStatus; cases v.getLsbD 1 <;> cases v.getLsbD 2 <;> simp
@[simp] theorem State.writeStatus_err (v : Word) : (s.writeStatus v).err = (s.err && !v.getLsbD 2) := by
  unfold State.writeStatus; cases v.getLsbD 1 <;> cases v.getLsbD 2 <;> simp
@[simp] theorem State.writeStatus_errCode (v : Word) : (s.writeStatus v).errCode = (if v.getLsbD 2 then .none else s.errCode) := by
  unfold State.writeStatus; cases v.getLsbD 1 <;> cases v.getLsbD 2 <;> simp
@[simp] theorem State.writeStatus_dkv (v : Word) : (s.writeStatus v).dkv = s.dkv := by
  unfold State.writeStatus; cases v.getLsbD 1 <;> cases v.getLsbD 2 <;> simp
@[simp] theorem State.writeStatus_akv (v : Word) : (s.writeStatus v).akv = s.akv := by
  unfold State.writeStatus; cases v.getLsbD 1 <;> cases v.getLsbD 2 <;> simp
@[simp] theorem State.writeStatus_anr (v : Word) : (s.writeStatus v).anr = s.anr := by
  unfold State.writeStatus; cases v.getLsbD 1 <;> cases v.getLsbD 2 <;> simp
@[simp] theorem State.writeStatus_din (v : Word) : (s.writeStatus v).din = s.din := by
  unfold State.writeStatus; cases v.getLsbD 1 <;> cases v.getLsbD 2 <;> simp
@[simp] theorem State.writeStatus_dout (v : Word) : (s.writeStatus v).dout = s.dout := by
  unfold State.writeStatus; cases v.getLsbD 1 <;> cases v.getLsbD 2 <;> simp
@[simp] theorem State.writeStatus_key (v : Word) : (s.writeStatus v).key = s.key := by
  unfold State.writeStatus; cases v.getLsbD 1 <;> cases v.getLsbD 2 <;> simp
@[simp] theorem State.writeStatus_gfA (v : Word) : (s.writeStatus v).gfA = s.gfA := by
  unfold State.writeStatus; cases v.getLsbD 1 <;> cases v.getLsbD 2 <;> simp
@[simp] theorem State.writeStatus_gfB (v : Word) : (s.writeStatus v).gfB = s.gfB := by
  unfold State.writeStatus; cases v.getLsbD 1 <;> cases v.getLsbD 2 <;> simp
@[simp] theorem State.writeStatus_gfR (v : Word) : (s.writeStatus v).gfR = s.gfR := by
  unfold State.writeStatus; cases v.getLsbD 1 <;> cases v.getLsbD 2 <;> simp
@[simp] theorem State.writeStatus_pin (v : Word) : (s.writeStatus v).pin = s.pin := by
  unfold State.writeStatus; cases v.getLsbD 1 <;> cases v.getLsbD 2 <;> simp
@[simp] theorem State.writeStatus_pout (v : Word) : (s.writeStatus v).pout = s.pout := by
  unfold State.writeStatus; cases v.getLsbD 1 <;> cases v.getLsbD 2 <;> simp
@[simp] theorem State.writeStatus_ptab (v : Word) : (s.writeStatus v).ptab = s.ptab := by
  unfold State.writeStatus; cases v.getLsbD 1 <;> cases v.getLsbD 2 <;> simp
@[simp] theorem State.writeStatus_drk (v : Word) : (s.writeStatus v).drk = s.drk := by
  unfold State.writeStatus; cases v.getLsbD 1 <;> cases v.getLsbD 2 <;> simp
@[simp] theorem State.writeStatus_aw (v : Word) : (s.writeStatus v).aw = s.aw := by
  unfold State.writeStatus; cases v.getLsbD 1 <;> cases v.getLsbD 2 <;> simp
@[simp] theorem State.writeStatus_inflight (v : Word) : (s.writeStatus v).inflight = s.inflight := by
  unfold State.writeStatus; cases v.getLsbD 1 <;> cases v.getLsbD 2 <;> simp
@[simp] theorem State.writeStatus_sboxAffine (v : Word) : (s.writeStatus v).sboxAffine = s.sboxAffine := by
  unfold State.writeStatus; cases v.getLsbD 1 <;> cases v.getLsbD 2 <;> simp
@[simp] theorem State.writeStatus_schedule (v : Word) : (s.writeStatus v).schedule = s.schedule := by
  unfold State.writeStatus; cases v.getLsbD 1 <;> cases v.getLsbD 2 <;> simp
@[simp] theorem State.writeStatus_rdata (v : Word) : (s.writeStatus v).rdata = s.rdata := by
  unfold State.writeStatus; cases v.getLsbD 1 <;> cases v.getLsbD 2 <;> simp

end Sys2Proof.Machine
end

