-- ==== Sys2Proof/Laws/Ops.lean ====
section
/-! SUPPORT. What each shared operation over the registers can do, said once: reading a register, issuing a
command, ending the command in flight, and the shapes that several commands share. -/

namespace Sys2Proof.Machine

variable (s : State)

/-- Two states that agree on every field but STATUS's read the same in every register but STATUS: the
windows of a state is determined by the fields it shows (R16). -/
theorem readReg_congr (t : State) (r : Reg) (hr : r ≠ .status)
    (h : t.doneIe = s.doneIe ∧ t.errIe = s.errIe ∧ t.din = s.din ∧ t.dout = s.dout ∧ t.key = s.key ∧
      t.gfA = s.gfA ∧ t.gfB = s.gfB ∧ t.gfR = s.gfR ∧ t.pin = s.pin ∧ t.pout = s.pout ∧
      t.ptab = s.ptab ∧ t.drk = s.drk ∧ t.aw = s.aw) : t.readReg r = s.readReg r := by
  obtain ⟨h1, h2, h3, h4, h5, h6, h7, h8, h9, h10, h11, h12, h13⟩ := h
  cases r <;> simp_all [State.readReg, State.ctrlWord]

/-- An error at completion writes STATUS and empties the latch, nothing else (R192, R201). -/
@[simp] theorem finish_error (code : ErrCode) :
    s.finish (.error code) = { s with err := true, errCode := code, inflight := none } := rfl

/-- A success at completion performs its register writes, sets DONE and empties the latch (R192). -/
@[simp] theorem finish_ok (t : State) :
    s.finish (.ok t) = { t with done := true, inflight := none } := rfl

/-- Everything the completion step can do (R192): it answers exactly when a command is in flight, and then
with the end of that command. -/
theorem complete_eq_next (body : Snapshot → Except ErrCode State) (t : State) :
    complete s body = .next t ↔ ∃ f, s.inflight = some f ∧ t = s.finish (body f.snap) := by
  unfold complete
  cases h : s.inflight with
  | none => simp
  | some f => simp [eq_comm]

/-- The completion of the command in flight `f`. -/
theorem complete_of_inflight (body : Snapshot → Except ErrCode State) (f : InFlight)
    (h : s.inflight = some f) : complete s body = .next (s.finish (body f.snap)) := by
  simp [complete, h]

/-- A write to CMD (R190, R191). -/
theorem writeCmd_eq (v : Word) :
    s.writeCmd v = if s.inflight.isSome then s.raise .busy else s.accept v := rfl

/-- What the GF commands can do (R150 to R154). -/
theorem gfCommand_eq_next (f : Args) (result : Snapshot → Byte) (t : State) :
    gfCommand f s result = .next t ↔ ∃ l, s.inflight = some l ∧
      t = s.finish (if f.rsvdAll then .error .rsvd else .ok (s.setGfR (result l.snap))) :=
  complete_eq_next s _ t

/-- What the six state commands can do (R178 to R180, R182 to R184). -/
theorem stateCommand_eq_next (f : Args) (transform : CipherState → CipherState) (t : State) :
    stateCommand f s transform = .next t ↔ ∃ l, s.inflight = some l ∧
      t = s.finish (if f.rsvdAll then .error .rsvd
        else .ok (s.setDout (fromState (transform (toState l.snap.din))))) :=
  complete_eq_next s _ t

/-- What DES_ENC and DES_DEC can do (R122, R123). -/
theorem desCipher_eq_next (f : Args) (keys : List RoundKey) (t : State) :
    desCipher f s keys = .next t ↔ ∃ l, s.inflight = some l ∧
      t = s.finish (if f.rsvdButA then .error .rsvd else if f.a != Config.desBytes then .error .blkLen
        else if !s.dkv then .error .noKey
        else .ok (s.setDout (dout64 (desProcess l.snap.desBlock keys)))) :=
  complete_eq_next s _ t

/-- What AES_ENC and AES_DEC can do (R176, R177). -/
theorem aesCipher_eq_next (f : Args) (transform : Vector Word 4 → Vector Word 4) (t : State) :
    aesCipher f s transform = .next t ↔ ∃ l, s.inflight = some l ∧
      t = s.finish (if f.rsvdButA then .error .rsvd
        else if f.a != Config.aesBlockBytes then .error .blkLen
        else if !s.akv then .error .noKey else .ok (s.setDout (transform l.snap.din))) :=
  complete_eq_next s _ t

/-- The must-be-zero checks as statements about the fields (R74). -/
theorem rsvdAll_iff (f : Args) : f.rsvdAll = true ↔ f.rsv ≠ 0 ∨ f.a ≠ 0 ∨ f.b ≠ 0 ∨ f.c ≠ 0 := by
  simp [Args.rsvdAll, or_assoc]

/-- The must-be-zero checks of the commands with a length (R74). -/
theorem rsvdButA_iff (f : Args) : f.rsvdButA = true ↔ f.rsv ≠ 0 ∨ f.b ≠ 0 ∨ f.c ≠ 0 := by
  simp [Args.rsvdButA, or_assoc]

/-- The must-be-zero checks of AES_ARK (R74). -/
theorem rsvdButB_iff (f : Args) : f.rsvdButB = true ↔ f.rsv ≠ 0 ∨ f.a ≠ 0 ∨ f.c ≠ 0 := by
  simp [Args.rsvdButB, or_assoc]

/-- The must-be-zero checks of PERM (R74). -/
theorem rsvdPerm_iff (f : Args) :
    f.rsvdPerm = true ↔ f.rsv ≠ 0 ∨ f.c.getLsbD 2 = true ∨ f.c.getLsbD 3 = true := by
  have h : ∀ c : BitVec 4, c.extractLsb' 2 2 ≠ 0 ↔ c.getLsbD 2 = true ∨ c.getLsbD 3 = true := by decide
  simp only [Args.rsvdPerm, Bool.or_eq_true, bne_iff_ne, h]

end Sys2Proof.Machine
end

