-- ==== Sys2Proof/Laws/Step.lean ====
section
/-! SUPPORT. What a host access, the engine's step and a step of the machine can do, said once. -/

namespace Sys2Proof.Machine

variable (s : State)

/-- Everything a host access can do (R51, R58, R59). -/
theorem hostStep_cases (a : Access) :
    (∃ w off, a = .read w off ∧ accessOk w off = true ∧
      s.hostStep a = { s with rdata := s.readReg (regAt off) }) ∨
    (∃ w off, a = .read w off ∧ accessOk w off = false ∧
      s.hostStep a = { s with err := true, errCode := .bus, rdata := 0 }) ∨
    (∃ w off v, a = .write w off v ∧ accessOk w off = true ∧ s.hostStep a = s.writeReg (regAt off) v) ∨
    (∃ w off v, a = .write w off v ∧ accessOk w off = false ∧ s.hostStep a = s.raise .bus) := by
  cases a with
  | read w off =>
    cases h : accessOk w off
    · exact .inr (.inl ⟨w, off, rfl, h, by simp [State.hostStep, State.hostRead, h, State.raise]⟩)
    · exact .inl ⟨w, off, rfl, h, by simp [State.hostStep, State.hostRead, h]⟩
  | write w off v =>
    cases h : accessOk w off
    · exact .inr (.inr (.inr ⟨w, off, v, rfl, h, by simp [State.hostStep, State.hostWrite, h]⟩))
    · exact .inr (.inr (.inl ⟨w, off, v, rfl, h, by simp [State.hostStep, State.hostWrite, h]⟩))

/-- Everything the engine's step can do (R192): nothing while no command is in flight, the ILLEGAL error
for an unassigned OP, what the command does otherwise. -/
theorem engineStep_cases :
    (s.inflight = none ∧ engineStep s = .next s) ∨
    (∃ f e, s.inflight = some f ∧ decode f.cmd = .error e ∧
      engineStep s = .next { s with err := true, errCode := .illegal, inflight := none }) ∨
    (∃ f i, s.inflight = some f ∧ decode f.cmd = .ok i ∧ engineStep s = exec i s) := by
  unfold engineStep
  cases h : s.inflight with
  | none => exact .inl ⟨rfl, rfl⟩
  | some f =>
    cases h2 : decode f.cmd with
    | error e => exact .inr (.inl ⟨f, e, rfl, h2, by simp [h2]⟩)
    | ok i => exact .inr (.inr ⟨f, i, rfl, h2, by simp [h2]⟩)

/-- Everything a step of the machine can do: the next turn of the schedule, or the engine's step when no
turn is left (R62, R236). -/
theorem step_cases :
    (s.schedule = [] ∧ step s = engineStep s) ∨
    (∃ a rest, s.schedule = .host a :: rest ∧
      step s = .next (State.hostStep { s with schedule := rest } a)) ∨
    (∃ rest, s.schedule = .engine :: rest ∧ step s = engineStep { s with schedule := rest }) ∨
    (∃ rest, s.schedule = .reset :: rest ∧
      step s = .next (State.resetRegisters { s with schedule := rest })) := by
  unfold step
  cases h : s.schedule with
  | nil => exact .inl ⟨rfl, rfl⟩
  | cons t rest =>
    cases t with
    | host a => exact .inr (.inl ⟨a, rest, rfl, rfl⟩)
    | engine => exact .inr (.inr (.inl ⟨rest, rfl, rfl⟩))
    | reset => exact .inr (.inr (.inr ⟨rest, rfl, rfl⟩))

end Sys2Proof.Machine
end

