-- ==== Sys2Proof/Laws/Exec.lean ====
section
/-! SUPPORT. What the meaning of a command can do, said once for all commands: which errors it can end with,
and which fields it can write when it succeeds (spec/30_encoding.md R75). -/

namespace Sys2Proof.Machine

/-- The commands that write neither a key schedule nor, as SRST does, every register. -/
def keepsSchedules (i : Instr) : Prop :=
  ∀ f, i ≠ .nop f ∧ i ≠ .srst f ∧ i ≠ .desKs f ∧ i ≠ .aesKs f

/-- Every meaning is one completion step (R192); an error it ends with has a code; and a success writes
nothing (NOP), everything (SRST), one key schedule, or one result register of those R75 lists. -/
theorem exec_eq_complete (i : Instr) (s : State) :
    ∃ body : Snapshot → Except ErrCode State, exec i s = complete s body ∧
      (∀ p code, body p = .error code → code ≠ .none) ∧
      ∀ p u, body p = .ok u →
        (∃ f, i = .nop f ∧ u = s) ∨
        (∃ f, i = .srst f ∧ u = s.resetRegisters) ∨
        (∃ f, i = .desKs f ∧
          u = s.setDesSchedule (tabulate 16 fun k => (desKeySchedule p.desKey).getD k 0)) ∨
        (∃ f nk, i = .aesKs f ∧ (nk = 4 ∨ nk = 6 ∨ nk = 8) ∧
          u = s.setAesSchedule (awFile s.sboxAffine nk (p.keyWords nk))
            (BitVec.ofNat 4 (roundsOf nk))) ∨
        (keepsSchedules i ∧ (∀ k, writtenOnSuccess i (.dout k)) ∧ ∃ q, u = s.setDout q) ∨
        (keepsSchedules i ∧ writtenOnSuccess i .gfR ∧ ∃ x, u = s.setGfR x) ∨
        (keepsSchedules i ∧ (∀ k, writtenOnSuccess i (.pout k)) ∧ ∃ y, u = s.setPout y) := by
  cases i <;> rename_i f <;> simp only [exec, execNop, execSrst, execDesKs, execDesEnc, execDesDec,
    desCipher, execDesF, execDesS, execAesKs, execAesEnc, execAesDec, aesCipher, execAesSb, execAesSr,
    execAesMc, execAesArk, execAesIsb, execAesIsr, execAesImc, stateCommand, gfCommand, execGfAdd,
    execGfMul, execGfInv, execSbox, execIsbox, execPerm] <;> refine ⟨_, rfl, ?_, ?_⟩
  all_goals first
    | (intro p code hc; (repeat' split at hc) <;> simp at hc <;> subst hc <;> simp; done)
    | skip
  all_goals intro p u hu; (repeat' split at hu) <;> simp at hu <;> subst hu
  all_goals first
    | (simp [writtenOnSuccess, keepsSchedules]; done)
    | skip
  rename_i h
  refine .inr (.inr (.inr (.inl ⟨f, f.a.toNat / 4, rfl, ?_, rfl⟩)))
  have h' : f.a = 16 ∨ f.a = 24 ∨ f.a = 32 := by simpa [Config.aesKeyBytes, imp_iff_not_or] using h
  rcases h' with h | h | h <;> rw [h] <;> decide

/-- With a command in flight every meaning answers a next state, and the latch is empty in it (R192). -/
theorem exec_of_inflight (i : Instr) (s : State) (l : InFlight) (h : s.inflight = some l) :
    ∃ t, exec i s = .next t ∧ t.inflight = none := by
  obtain ⟨body, e, _⟩ := exec_eq_complete i s
  rw [e, complete_of_inflight _ _ l h]
  cases h2 : body l.snap with
  | error code => exact ⟨_, rfl, by simp⟩
  | ok u => exact ⟨_, rfl, by simp⟩

end Sys2Proof.Machine
end

