-- ==== Sys2Proof/Laws/PerInstr.lean ====
section
/-! SUPPORT. The families of facts about an instruction as its encoded word, one lemma per constructor. -/

namespace Sys2Proof.Laws

/-- The fields of an assembled word are the fields it was assembled from (R71, R72). -/
theorem fields_of_assembleWord (op : BitVec 8) (f : Args) :
    opField (assembleWord op f) = op ∧ argsField (assembleWord op f) = f := by
  obtain ⟨a, b, c, rsv⟩ := f
  simp only [opField, argsField, assembleWord, Args.mk.injEq]
  refine ⟨?_, ?_, ?_, ?_, ?_⟩ <;> apply BitVec.eq_of_getLsbD_eq <;> intro i hi <;>
    simp only [BitVec.getLsbD_extractLsb', BitVec.getLsbD_append]
  · simp [hi]
  · have h0 : ¬ 8 + i < 8 := by omega
    have e : 8 + i - 8 = i := by omega
    simp [hi, h0, e]
  · have h0 : ¬ 16 + i < 8 := by omega
    have h1 : ¬ 16 + i - 8 < 8 := by omega
    have e : 16 + i - 8 - 8 = i := by omega
    simp [hi, h0, h1, e]
  · have h0 : ¬ 24 + i < 8 := by omega
    have h1 : ¬ 24 + i - 8 < 8 := by omega
    have h2 : ¬ 24 + i - 8 - 8 < 8 := by omega
    have e : 24 + i - 8 - 8 - 8 = i := by omega
    simp [hi, h0, h1, h2, e]
  · have h0 : ¬ 28 + i < 8 := by omega
    have h1 : ¬ 28 + i - 8 < 8 := by omega
    have h2 : ¬ 28 + i - 8 - 8 < 8 := by omega
    have h3 : ¬ 28 + i - 8 - 8 - 8 < 4 := by omega
    have e : 28 + i - 8 - 8 - 8 - 4 = i := by omega
    simp [hi, h0, h1, h2, h3, e]

/-- The word of the instruction carries its OP value and its fields unchanged (R71, R72). -/
def WordFields.Statement (i : Instr) : Prop :=
  opField (encode i) = i.op ∧ argsField (encode i) = i.args

theorem WordFields.nop (f : Args) : WordFields.Statement (.nop f) := fields_of_assembleWord _ f
theorem WordFields.srst (f : Args) : WordFields.Statement (.srst f) := fields_of_assembleWord _ f
theorem WordFields.desKs (f : Args) : WordFields.Statement (.desKs f) := fields_of_assembleWord _ f
theorem WordFields.desEnc (f : Args) : WordFields.Statement (.desEnc f) := fields_of_assembleWord _ f
theorem WordFields.desDec (f : Args) : WordFields.Statement (.desDec f) := fields_of_assembleWord _ f
theorem WordFields.desF (f : Args) : WordFields.Statement (.desF f) := fields_of_assembleWord _ f
theorem WordFields.desS (f : Args) : WordFields.Statement (.desS f) := fields_of_assembleWord _ f
theorem WordFields.aesKs (f : Args) : WordFields.Statement (.aesKs f) := fields_of_assembleWord _ f
theorem WordFields.aesEnc (f : Args) : WordFields.Statement (.aesEnc f) := fields_of_assembleWord _ f
theorem WordFields.aesDec (f : Args) : WordFields.Statement (.aesDec f) := fields_of_assembleWord _ f
theorem WordFields.aesSb (f : Args) : WordFields.Statement (.aesSb f) := fields_of_assembleWord _ f
theorem WordFields.aesSr (f : Args) : WordFields.Statement (.aesSr f) := fields_of_assembleWord _ f
theorem WordFields.aesMc (f : Args) : WordFields.Statement (.aesMc f) := fields_of_assembleWord _ f
theorem WordFields.aesArk (f : Args) : WordFields.Statement (.aesArk f) := fields_of_assembleWord _ f
theorem WordFields.aesIsb (f : Args) : WordFields.Statement (.aesIsb f) := fields_of_assembleWord _ f
theorem WordFields.aesIsr (f : Args) : WordFields.Statement (.aesIsr f) := fields_of_assembleWord _ f
theorem WordFields.aesImc (f : Args) : WordFields.Statement (.aesImc f) := fields_of_assembleWord _ f
theorem WordFields.gfAdd (f : Args) : WordFields.Statement (.gfAdd f) := fields_of_assembleWord _ f
theorem WordFields.gfMul (f : Args) : WordFields.Statement (.gfMul f) := fields_of_assembleWord _ f
theorem WordFields.gfInv (f : Args) : WordFields.Statement (.gfInv f) := fields_of_assembleWord _ f
theorem WordFields.sbox (f : Args) : WordFields.Statement (.sbox f) := fields_of_assembleWord _ f
theorem WordFields.isbox (f : Args) : WordFields.Statement (.isbox f) := fields_of_assembleWord _ f
theorem WordFields.perm (f : Args) : WordFields.Statement (.perm f) := fields_of_assembleWord _ f

end Sys2Proof.Laws
end

