-- ==== Sys2Proof/Machine/Assembler.lean ====
section
/-! DEFINITION. The written form of commands (spec/30_encoding.md R79) and the default lengths of R80: from
a line of text to the command it stands for. -/

namespace Sys2Proof.Machine

/-- The words of a line: maximal runs of characters other than blanks and commas. -/
def splitLine : List Char → List Char → List String
  | [], [] => []
  | [], word => [String.ofList word.reverse]
  | c :: cs, word =>
    if c = ' ' ∨ c = ',' then
      if word.isEmpty then splitLine cs [] else String.ofList word.reverse :: splitLine cs []
    else splitLine cs (c :: word)

/-- The value of a digit in the given radix. -/
def digitValue (radix : Nat) (c : Char) : Option Nat :=
  let n := c.toNat
  let v :=
    if 48 ≤ n ∧ n ≤ 57 then n - 48
    else if 65 ≤ n ∧ n ≤ 70 then n - 55
    else if 97 ≤ n ∧ n ≤ 102 then n - 87
    else 16
  if v < radix then some v else none

/-- The value of a run of digits, none if one is no digit. -/
def digitsValue (radix : Nat) : List Char → Nat → Option Nat
  | [], acc => some acc
  | c :: cs, acc =>
    match digitValue radix c with
    | some v => digitsValue radix cs (acc * radix + v)
    | none => none

/-- A number, decimal or 0x-prefixed hexadecimal (R79). -/
def numberOf (word : String) : Option Nat :=
  match word.toList with
  | '0' :: 'x' :: c :: cs => digitsValue 16 (c :: cs) 0
  | c :: cs => digitsValue 10 (c :: cs) 0
  | [] => none

/-- A number that fits an 8-bit field (R71). -/
def byteArg (word : String) : Option (BitVec 8) :=
  match numberOf word with
  | some n => if n < 256 then some (BitVec.ofNat 8 n) else none
  | none => none

/-- BASE: base1 or base0 (R79). -/
def baseArg (word : String) : Option (BitVec 4) :=
  if word = "base1" then some 0 else if word = "base0" then some 1 else none

/-- DIR: asc or desc, as the bit of weight 2 (R79). -/
def dirArg (word : String) : Option (BitVec 4) :=
  if word = "asc" then some 0 else if word = "desc" then some 2 else none

/-- Fields A, B and C with RSV = 0 (R72). -/
def argsOf (a b : BitVec 8) (c : BitVec 4) : Args := ⟨a, b, c, 0⟩

/-- The lines without an operand (R79), and those of R80 whose length is left to its default. -/
def plainLines : List (String × Instr) := [
  ("nop", .nop (argsOf 0 0 0)), ("srst", .srst (argsOf 0 0 0)),
  ("des.ks", .desKs (argsOf 8 0 0)), ("des.enc", .desEnc (argsOf 8 0 0)),
  ("des.dec", .desDec (argsOf 8 0 0)), ("des.f", .desF (argsOf 0 0 0)), ("des.s", .desS (argsOf 0 0 0)),
  ("aes.enc", .aesEnc (argsOf 16 0 0)), ("aes.dec", .aesDec (argsOf 16 0 0)),
  ("aes.sb", .aesSb (argsOf 0 0 0)), ("aes.sr", .aesSr (argsOf 0 0 0)), ("aes.mc", .aesMc (argsOf 0 0 0)),
  ("aes.isb", .aesIsb (argsOf 0 0 0)), ("aes.isr", .aesIsr (argsOf 0 0 0)),
  ("aes.imc", .aesImc (argsOf 0 0 0)),
  ("gf.add", .gfAdd (argsOf 0 0 0)), ("gf.mul", .gfMul (argsOf 0 0 0)), ("gf.inv", .gfInv (argsOf 0 0 0)),
  ("gf.sbox", .sbox (argsOf 0 0 0)), ("gf.isbox", .isbox (argsOf 0 0 0))]

/-- The lines with one operand (R79): a length in A, or a round index in B. -/
def operandLines : List (String × (BitVec 8 → Instr)) := [
  ("des.ks", fun a => .desKs (argsOf a 0 0)), ("des.enc", fun a => .desEnc (argsOf a 0 0)),
  ("des.dec", fun a => .desDec (argsOf a 0 0)), ("aes.ks", fun a => .aesKs (argsOf a 0 0)),
  ("aes.enc", fun a => .aesEnc (argsOf a 0 0)), ("aes.dec", fun a => .aesDec (argsOf a 0 0)),
  ("aes.ark", fun b => .aesArk (argsOf 0 b 0))]

/-- `perm m, n, base, dir` (R79). -/
def permLine (m n base dir : String) : Option Instr :=
  match byteArg m, byteArg n, baseArg base, dirArg dir with
  | some a, some b, some c0, some c1 => some (.perm (argsOf a b (c0 + c1)))
  | _, _, _, _ => none

/-- The command of a line given as words (R79, R80). -/
def assembleWords : List String → Option Instr
  | [name] => plainLines.lookup name
  | [name, operand] =>
    match operandLines.lookup name, byteArg operand with
    | some command, some x => some (command x)
    | _, _ => none
  | [name, m, n, base, dir] => if name = "perm" then permLine m n base dir else none
  | _ => none

/-- The command a line stands for; none if the line is no command. -/
def assemble (line : String) : Option Instr := assembleWords (splitLine line.toList [])

end Sys2Proof.Machine
end

