-- ==== Sys2Proof/Machine/Script.lean ====
section
/-! DEFINITION. The host-script lines of spec/30_encoding.md R80 and the turns they stand for. A script is
the host's; the engine sees only its accesses. -/

namespace Sys2Proof.Machine

/-- One line of a host script (R80). -/
inductive ScriptLine where
  /-- `sw OFF, V` -/
  | sw (off : BitVec 10) (v : Word)
  /-- `lw OFF` -/
  | lw (off : BitVec 10)
  /-- `cmd <command>` -/
  | cmd (i : Instr)
  /-- `wait`, with the number of polls that still read BUSY = 1: how long the command takes is the OPEN
  parameter LATENCY (R5), so the line stands for one list of turns for each number. -/
  | wait (polls : Nat)
  /-- `ldq OFF, h0 h1 ... hk` -/
  | ldq (off : BitVec 10) (vs : List Word)
  /-- `chk OFF, V` -/
  | chk (off : BitVec 10) (v : Word)
  deriving DecidableEq, Repr

/-- A well-formed read of a register (R51). -/
def readTurn (off : BitVec 10) : Turn := .host (.read 32 off)

/-- A 32-bit write (R51). -/
def writeTurn (off : BitVec 10) (v : Word) : Turn := .host (.write 32 off v)

/-- Writes of consecutive registers from offset `off` on (R80, `ldq`). DESIGN CHOICE (notes/assumptions/15):
R80 does not say what a write of a run that passes the end of the window does; its address is outside the
window, so it does not reach the engine and is no turn. Unsafe: another host might wrap the offset or
reject the line. -/
def loadTurns (off : Nat) : List Word → List Turn
  | [] => []
  | v :: vs =>
    if off < Config.windowBytes then writeTurn (BitVec.ofNat 10 off) v :: loadTurns (off + 4) vs else []

/-- The turns of a line (R80). -/
def ScriptLine.turns : ScriptLine → List Turn
  | .sw off v => [writeTurn off v]
  | .lw off => [readTurn off]
  | .cmd i => [writeTurn 0x00C (encode i)]
  | .wait polls => List.replicate polls (readTurn 0x008) ++ [.engine, readTurn 0x008]
  | .ldq off vs => loadTurns off.toNat vs
  | .chk off _ => [readTurn off]

/-- The turns of a script, with the engine's turn at its `wait` lines only. DESIGN CHOICE
(notes/assumptions/15): R80 gives the host's accesses, and where the engine's step falls among them is open
(LATENCY, R62), so this is one placement of many; `schedulesScript` says which lists of turns are allowed.
Unsafe for a claim about this list alone: it does not give outcome B of program P5. -/
def scriptTurns (lines : List ScriptLine) : List Turn := lines.flatMap ScriptLine.turns

/-- The turns that are not the engine's: the host's accesses, in their order. -/
def accessTurns (turns : List Turn) : List Turn := turns.filter (· != .engine)

/-- The turns are a placement of the engine's step for a script: the host's accesses are those of its lines,
and the engine's turns stand anywhere among them (R62). The polls of a `wait` line are as many as the line
says, whatever they read. -/
def schedulesScript (lines : List ScriptLine) (turns : List Turn) : Bool :=
  accessTurns turns == accessTurns (scriptTurns lines)

/-- A 32-bit value written as a number (R79). -/
def wordArg (word : String) : Option Word :=
  match numberOf word with
  | some n => if n < 2 ^ 32 then some (BitVec.ofNat 32 n) else none
  | none => none

/-- An offset of the window written as a number (R50). -/
def offArg (word : String) : Option (BitVec 10) :=
  match numberOf word with
  | some n => if n < Config.windowBytes then some (BitVec.ofNat 10 n) else none
  | none => none

/-- The values of an `ldq` line. -/
def wordArgs : List String → Option (List Word)
  | [] => some []
  | v :: vs =>
    match wordArg v, wordArgs vs with
    | some x, some xs => some (x :: xs)
    | _, _ => none

/-- The line given as words (R80). `cmd` takes a command or, as the programs of spec/95_test_vectors.md
write it, a bare command word. `polls` is the number that a `wait` line gets. -/
def scriptWords (polls : Nat) : List String → Option ScriptLine
  | [] => none
  | name :: args =>
    if name = "wait" then if args.isEmpty then some (.wait polls) else none
    else if name = "cmd" then
      match assembleWords args, args with
      | some i, _ => some (.cmd i)
      | none, [w] => (wordArg w).map (.sw 0x00C)
      | none, _ => none
    else
      match args with
      | [] => none
      | off :: vs =>
        match offArg off, wordArgs vs with
        | some o, some xs =>
          if name = "ldq" then some (.ldq o xs)
          else
            match xs with
            | [] => if name = "lw" then some (.lw o) else none
            | [v] => if name = "sw" then some (.sw o v) else if name = "chk" then some (.chk o v) else none
            | _ => none
        | _, _ => none

/-- The line a text stands for, its comment left out: text from a semicolon on (R80). A text that is no
line, or only a comment, gives none. -/
def scriptLine (polls : Nat) (text : String) : Option ScriptLine :=
  scriptWords polls (splitLine (text.toList.takeWhile (· ≠ ';')) [])

/-- What a `chk` line claims of the state after its read; the other lines claim nothing (R80). -/
def ScriptLine.claim (l : ScriptLine) (after : State) : Bool :=
  match l with
  | .chk _ v => after.rdata == v
  | _ => true

end Sys2Proof.Machine
end

