-- ==== Sys2Proof/Laws/Script.lean ====
section
/-! SUPPORT. Which lists of turns a host script allows, said once. -/

namespace Sys2Proof.Machine

/-- The placement that `scriptTurns` chooses is one of those allowed. -/
theorem schedulesScript_scriptTurns (lines : List ScriptLine) :
    schedulesScript lines (scriptTurns lines) = true := by
  simp [schedulesScript]

/-- An engine turn may stand anywhere among a script's accesses, or nowhere (R62). -/
theorem schedulesScript_insert_engine (lines : List ScriptLine) (before later : List Turn) :
    schedulesScript lines (before ++ .engine :: later) = schedulesScript lines (before ++ later) := by
  simp [schedulesScript, accessTurns]

end Sys2Proof.Machine
end

