-- ==== Sys2Proof/Tests/Slice0.lean ====
section
/-! SUPPORT. Tests. Expected values are those of spec/95_test_vectors.md (the vector is named) or are worked
by hand from the rule named. The last part meets the hypotheses of the obligations. -/

namespace Sys2Proof.Tests
open Sys2Proof Sys2Proof.Machine

/-! ### WellFormed: one ill-formed term for each check (R74) -/

theorem test_wellFormed : WellFormed (.desKs ⟨8, 0, 0, 0⟩) = true ∧ WellFormed (.aesKs ⟨24, 0, 0, 0⟩) = true ∧
    WellFormed (.aesArk ⟨0, 14, 0, 0⟩) = true ∧ WellFormed (.perm ⟨1, 64, 3, 0⟩) = true := by decide
theorem test_illFormed_rsv : WellFormed (.perm ⟨4, 8, 0, 1⟩) = false := by decide
theorem test_illFormed_a : WellFormed (.aesArk ⟨1, 0, 0, 0⟩) = false := by decide
theorem test_illFormed_b : WellFormed (.desKs ⟨8, 1, 0, 0⟩) = false := by decide
theorem test_illFormed_c : WellFormed (.aesEnc ⟨16, 0, 1, 0⟩) = false := by decide
theorem test_illFormed_cHigh : WellFormed (.perm ⟨4, 8, 4, 0⟩) = false := by decide
theorem test_illFormed_allClear : WellFormed (.desF ⟨1, 0, 0, 0⟩) = false := by decide
theorem test_illFormed_desLength : WellFormed (.desEnc ⟨7, 0, 0, 0⟩) = false := by decide
theorem test_illFormed_aesBlock : WellFormed (.aesDec ⟨15, 0, 0, 0⟩) = false := by decide
theorem test_illFormed_aesKey : WellFormed (.aesKs ⟨17, 0, 0, 0⟩) = false := by decide
theorem test_illFormed_round : WellFormed (.aesArk ⟨0, 15, 0, 0⟩) = false := by decide
theorem test_illFormed_permTable : WellFormed (.perm ⟨0, 8, 0, 0⟩) = false := by decide
theorem test_illFormed_permInput : WellFormed (.perm ⟨4, 65, 0, 0⟩) = false := by decide

/-! ### Decoding: a word written out from R71 to R74 for every constructor -/

theorem test_decode_system : decode 0x00000000 = .ok (.nop ⟨0, 0, 0, 0⟩) ∧
    decode 0x00000001 = .ok (.srst ⟨0, 0, 0, 0⟩) := by decide
theorem test_decode_des : decode 0x00000810 = .ok (.desKs ⟨8, 0, 0, 0⟩) ∧
    decode 0x00000811 = .ok (.desEnc ⟨8, 0, 0, 0⟩) ∧ decode 0x00000812 = .ok (.desDec ⟨8, 0, 0, 0⟩) ∧
    decode 0x00000013 = .ok (.desF ⟨0, 0, 0, 0⟩) ∧ decode 0x00000014 = .ok (.desS ⟨0, 0, 0, 0⟩) := by decide
theorem test_decode_aes : decode 0x00001020 = .ok (.aesKs ⟨16, 0, 0, 0⟩) ∧
    decode 0x00001021 = .ok (.aesEnc ⟨16, 0, 0, 0⟩) ∧ decode 0x00001022 = .ok (.aesDec ⟨16, 0, 0, 0⟩) ∧
    decode 0x00000023 = .ok (.aesSb ⟨0, 0, 0, 0⟩) ∧ decode 0x00000024 = .ok (.aesSr ⟨0, 0, 0, 0⟩) ∧
    decode 0x00000025 = .ok (.aesMc ⟨0, 0, 0, 0⟩) ∧ decode 0x000A0026 = .ok (.aesArk ⟨0, 10, 0, 0⟩) ∧
    decode 0x00000027 = .ok (.aesIsb ⟨0, 0, 0, 0⟩) ∧ decode 0x00000028 = .ok (.aesIsr ⟨0, 0, 0, 0⟩) ∧
    decode 0x00000029 = .ok (.aesImc ⟨0, 0, 0, 0⟩) := by decide
theorem test_decode_gf : decode 0x00000030 = .ok (.gfAdd ⟨0, 0, 0, 0⟩) ∧
    decode 0x00000031 = .ok (.gfMul ⟨0, 0, 0, 0⟩) ∧ decode 0x00000032 = .ok (.gfInv ⟨0, 0, 0, 0⟩) ∧
    decode 0x00000033 = .ok (.sbox ⟨0, 0, 0, 0⟩) ∧ decode 0x00000034 = .ok (.isbox ⟨0, 0, 0, 0⟩) := by decide
theorem test_decode_perm : decode 0x02080440 = .ok (.perm ⟨4, 8, 2, 0⟩) := by decide
/-- Every field at a value of its own: RSV = 8, C = 7, B = 0x65, A = 0x43. -/
theorem test_decode_fields : decode 0x87654340 = .ok (.perm ⟨0x43, 0x65, 7, 8⟩) ∧
    encode (.perm ⟨0x43, 0x65, 7, 8⟩) = 0x87654340 := by decide
theorem test_decode_unassigned : decode 0x00000002 = .error (.unassignedOp 0x02) ∧
    decode 0xFFFFFFFF = .error (.unassignedOp 0xFF) := by decide
/-- The table gives a command 32 bits; bits above `nbits` are 0. -/
theorem test_decodeTableWord : decodeTableWord 32 0x02080440 = some (.perm ⟨4, 8, 2, 0⟩) ∧
    decodeTableWord 8 0x840 = some (.perm ⟨0, 0, 0, 0⟩) ∧ decodeTableWord 32 0x15 = none := by decide
/-- The written forms of R79 and the default length of R80. -/
theorem test_assemble : assemble "aes.ks 24" = some (.aesKs ⟨24, 0, 0, 0⟩) ∧
    assemble "perm 4, 8, base1, desc" = some (.perm ⟨4, 8, 2, 0⟩) ∧
    assemble "des.enc" = some (.desEnc ⟨8, 0, 0, 0⟩) ∧ assemble "aes.ark 0x0A" = some (.aesArk ⟨0, 10, 0, 0⟩) ∧
    assemble "aes.ks" = none := by decide +kernel

/-! ### One step of each command -/

/-- The state one step after the command word `w` was accepted in `s`. -/
def ran (s : State) (w : Nat) : State :=
  match step (s.withFetchWord 32 w) with
  | .next t => t
  | .fault _ | .refused _ => s

/-- The reset state with DIN loaded. -/
def withDin (d0 d1 d2 d3 : Word) : State := { State.reset with din := #v[d0, d1, d2, d3] }

/-- V-A's block: 3243F6A8 885A308D 313198A2 E0370734. -/
def blockD : State := withDin 0x3243F6A8 0x885A308D 0x313198A2 0xE0370734

/-- The reset state with the GF operands loaded. -/
def withGf (a b : Byte) : State := { State.reset with gfA := a, gfB := b }

/-- The other setting of SBOX_AFFINE. -/
def fips (s : State) : State := { s with sboxAffine := .fips197 }

/-- A state with the AES schedule of a key. -/
def withKey (s : State) (nk : Nat) (key : List Word) : State :=
  { s with aw := awFile s.sboxAffine nk key, akv := true, anr := BitVec.ofNat 4 (nk + 6) }

/-- The key of V-A1. -/
def keyA1 : List Word := [0x2B7E1516, 0x28AED2A6, 0xABF71588, 0x09CF4F3C]

/-- V-E1. -/
theorem test_nop : (ran State.reset 0).statusWord = 2 := by decide
/-- V-E15, V-E16. -/
theorem test_srst : (ran (withGf 1 2) 1).gfA = 0 ∧ (ran (withGf 1 2) 1).statusWord = 2 ∧
    (ran (withGf 1 2) 0x10000001).gfA = 1 ∧ (ran (withGf 1 2) 0x10000001).statusWord = 0x204 := by decide
/-- V-D2: DRK[0] and DRK[15] of V-D1. -/
theorem test_desKs :
    let t := ran { State.reset with key := #v[0x13345779, 0x9BBCDFF1, 0, 0, 0, 0, 0, 0] } 0x810
    t.drk[0] = 0x1B02EFFC7072 ∧ t.drk[15] = 0xCB3D8B0E17F5 ∧ t.statusWord = 0xA := by decide +kernel
/-- V-D5: the round keys of 01...01 are all 0. -/
theorem test_desEnc : (ran { withDin 0x80000000 0 0 0 with dkv := true } 0x811).dout
    = #v[0x95F8A5E5, 0xDD31D900, 0, 0] := by decide +kernel
/-- V-D7d, whose round keys are 000000FFFFFF. -/
theorem test_desDec :
    (ran { State.reset with dkv := true, drk := Vector.replicate 16 0x000000FFFFFF } 0x812).dout
    = #v[0x94AEA8BD, 0x97D84ED9, 0, 0] := by decide +kernel
/-- V-E6, V-E4. -/
theorem test_desEnc_errors : (ran State.reset 0x811).statusWord = 0x504 ∧
    (ran State.reset 0x711).statusWord = 0x304 := by decide
/-- V-D13. -/
theorem test_desF : (ran (withDin 0xF0AAF0AA 0 0x1B02 0xEFFC7072) 0x13).dout = #v[0x234AA9BB, 0, 0, 0] := by
  decide +kernel
/-- V-D17: DIN2[31:16] and DIN0 are not read. -/
theorem test_desS : (ran (withDin 0xFFFFFFFF 0 0xFFFF0000 0) 0x14).dout = #v[0xEFA72C4D, 0, 0, 0] := by
  decide +kernel
/-- V-A1, with the source's S-box. -/
theorem test_aesKs :
    let t := ran { State.reset with key := ⟨(keyA1 ++ [1, 2, 3, 4]).toArray, rfl⟩ } 0x1020
    t.aw[4] = 0xAF14013A ∧ t.aw[43] = 0x6E00684E ∧ t.aw[44] = 0 ∧ t.statusWord = 0xA0012 := by decide +kernel
/-- V-E8. -/
theorem test_aesKs_error : (ran State.reset 0x1120).statusWord = 0x404 := by decide
/-- V-A7, FIPS 197. -/
theorem test_aesEnc : (ran (withKey (fips blockD) 4 keyA1) 0x1021).dout
    = #v[0x3925841D, 0x02DC09FB, 0xDC118597, 0x196A0B32] := by decide +kernel
/-- V-A7, the source's S-box, backwards. -/
theorem test_aesDec : (ran (withKey (withDin 0x85120C12 0x2781FED9 0x6EE18B9E 0xD6743636) 4 keyA1) 0x1022).dout
    = #v[0x3243F6A8, 0x885A308D, 0x313198A2, 0xE0370734] := by decide +kernel
/-- V-A12. -/
theorem test_aesSb : (ran blockD 0x23).dout = #v[0xF1046045, 0xF8414F61, 0x2626494D, 0xD221B290] := by
  decide +kernel
/-- V-A13. -/
theorem test_aesSr : (ran blockD 0x24).dout = #v[0x325A9834, 0x883107A8, 0x3137F68D, 0xE04330A2] := by
  decide +kernel
/-- V-A15. -/
theorem test_aesMc : (ran blockD 0x25).dout = #v[0xFF1D65A8, 0x58E13EE8, 0x0B42D6A5, 0xB1B38563] := by
  decide +kernel
/-- V-A19. -/
theorem test_aesArk : (ran (withKey blockD 4 keyA1) 0x000A0026).dout
    = #v[0x2F9BF2F9, 0xFFE81721, 0xFD396EDF, 0x8E376F7A] := by decide +kernel
/-- V-E12, V-E7. -/
theorem test_aesArk_errors : (ran { State.reset with akv := true, anr := 10 } 0x000B0026).statusWord = 0xA0A14 ∧
    (ran State.reset 0x00140026).statusWord = 0x504 := by decide
/-- V-A20. -/
theorem test_aesIsb : (ran blockD 0x27).dout = #v[0x5C3A8A04, 0xE335CA1E, 0x0505A028, 0x804C49BF] := by
  decide +kernel
/-- V-A21. -/
theorem test_aesIsr : (ran blockD 0x28).dout = #v[0x3237988D, 0x884307A2, 0x315AF634, 0xE03130A8] := by
  decide +kernel
/-- V-A23. -/
theorem test_aesImc : (ran blockD 0x29).dout = #v[0xA1FF3B4A, 0xDBC5BDCC, 0x52F38F14, 0x61DE550E] := by
  decide +kernel
/-- V-G1. -/
theorem test_gfAdd : (ran (withGf 0x57 0x83) 0x30).gfR = 0xD4 := by decide
/-- V-G3, and 0x80 times 2 of the same table. -/
theorem test_gfMul : (ran (withGf 0x57 0x83) 0x31).gfR = 0xC1 ∧ (ran (withGf 0x80 2) 0x31).gfR = 0x1B := by
  decide +kernel
/-- V-G4. -/
theorem test_gfInv : (ran (withGf 0x53 0) 0x32).gfR = 0xCA ∧ (ran (withGf 0 0) 0x32).gfR = 0 := by decide +kernel
/-- V-G5, both settings. -/
theorem test_sbox : (ran (withGf 0x53 0) 0x33).gfR = 0xA9 ∧ (ran (fips (withGf 0x53 0)) 0x33).gfR = 0xED := by
  decide +kernel
/-- V-G6, both settings. -/
theorem test_isbox : (ran (withGf 0 0) 0x34).gfR = 0xD3 ∧ (ran (fips (withGf 0 0)) 0x34).gfR = 0x52 := by
  decide +kernel

/-- PTAB0 = 08070605 and PIN = A5000000 00000000, as in V-P1 to V-P4. -/
def permState : State := { State.reset with
  ptab := (Vector.replicate 16 0).set 0 0x08070605, pin := #v[0xA5000000, 0] }

/-- V-P1, V-P2. -/
theorem test_perm : (ran permState 0x00080440).pout = #v[0xA0000000, 0] ∧
    (ran permState 0x02080440).pout = #v[0xA0000000, 0] := by decide +kernel
/-- V-P3, V-P4, V-E10. -/
theorem test_perm_base0 : (ran permState 0x01080440).statusWord = 0x704 ∧
    (ran permState 0x01090440).pout = #v[0x50000000, 0] ∧ (ran permState 0x00410440).statusWord = 0x604 := by
  decide +kernel

/-! ### Host accesses -/

/-- The state after the given turns. -/
def after (s : State) (turns : List Turn) : State :=
  match Sys2Proof.core.run turns.length { s with schedule := turns } with
  | .next t => t
  | .fault _ | .refused _ => s

/-- V-E13: the second word is rejected, the first command completes. -/
theorem test_busy : (after (withGf 0x57 0x83)
      [writeTurn 0x00C 0x30, writeTurn 0x00C 0x31]).statusWord = 0x805 ∧
    (after (withGf 0x57 0x83) [writeTurn 0x00C 0x30, writeTurn 0x00C 0x31, .engine]).gfR = 0xD4 := by
  decide +kernel
/-- V-E14, V-E17. -/
theorem test_bus : (after State.reset [writeTurn 0x061 5]).statusWord = 0x904 ∧
    (after { State.reset with done := true, err := true, errCode := .bus, dkv := true }
      [writeTurn 0x008 6]).statusWord = 0x8 := by decide +kernel
/-- R17, and R32: a write of an input register does not reach a command in flight. -/
theorem test_read : (after State.reset [readTurn 0x000]).rdata = 0x41573131 ∧
    (after (withGf 0x57 0x83) [writeTurn 0x00C 0x30, writeTurn 0x060 0, .engine, readTurn 0x068]).rdata = 0xD4 := by
  decide +kernel
/-- R80: the turns of a script. -/
theorem test_script : scriptTurns [.ldq 0x060 [0x57, 0x83], .cmd (.gfAdd ⟨0, 0, 0, 0⟩), .wait 1, .chk 0x068 0xD4]
    = [writeTurn 0x060 0x57, writeTurn 0x064 0x83, writeTurn 0x00C 0x30, readTurn 0x008, .engine,
       readTurn 0x008, readTurn 0x068] := by decide +kernel
/-- Program P5 without its last two reads: the second command is not waited for. -/
def scriptP5 : List ScriptLine :=
  [.sw 0x060 0x57, .sw 0x064 0x83, .cmd (.gfMul ⟨0, 0, 0, 0⟩), .cmd (.gfAdd ⟨0, 0, 0, 0⟩), .wait 0]
/-- P5, outcome A: the placement of `scriptTurns`. -/
theorem test_P5_outcomeA : (after State.reset (scriptTurns scriptP5)).gfR = 0xC1 ∧
    (after State.reset (scriptTurns scriptP5)).statusWord = 0x806 := by decide +kernel
/-- P5, outcome B: an engine turn between the two commands is allowed too. -/
theorem test_P5_outcomeB :
    let turns := [writeTurn 0x060 0x57, writeTurn 0x064 0x83, writeTurn 0x00C 0x31, .engine, writeTurn 0x00C 0x30,
      .engine, readTurn 0x008]
    schedulesScript scriptP5 turns = true ∧ (after State.reset turns).gfR = 0xD4 ∧
      (after State.reset turns).statusWord = 0x2 := by decide +kernel
/-- Log entry 15: the part of a run that passes the window's end is no turn. -/
theorem test_script_windowEnd : scriptTurns [.ldq 0x3FC [1, 2, 3]] = [writeTurn 0x3FC 1] := by decide +kernel
/-- R79, R80: lines of programs P1 and P3. -/
theorem test_scriptLine :
    scriptLine 0 "ldq 0x040, 0x13345779 0x9BBCDFF1     ; KEY0, KEY1" = some (.ldq 0x040 [0x13345779, 0x9BBCDFF1]) ∧
    scriptLine 0 "cmd des.enc 7    ; wrong length" = some (.cmd (.desEnc ⟨7, 0, 0, 0⟩)) ∧
    scriptLine 0 "cmd 0xFFFFFFFF" = some (.sw 0x00C 0xFFFFFFFF) ∧ scriptLine 3 "wait" = some (.wait 3) ∧
    scriptLine 0 "chk 0x008, 0x00000904" = some (.chk 0x008 0x904) ∧
    scriptLine 0 "sw 0x061, 0x00000057 ; misaligned" = some (.sw 0x061 0x57) ∧ scriptLine 0 "lw 12" = some (.lw 12) ∧
    scriptLine 0 "; P1" = none := by decide +kernel
/-- R230: the hardware reset abandons the command in flight. -/
theorem test_hardwareReset : (after (withGf 0x57 0x83) [writeTurn 0x00C 0x30, .reset, .engine]).gfR = 0 ∧
    (after (withGf 0x57 0x83) [writeTurn 0x00C 0x30, .reset]).statusWord = 0 := by decide +kernel

/-! ### Witnesses: states and operands that meet the hypotheses of the obligations -/

/-- The state in which the word `w` has just been accepted in `s`. -/
def flying (s : State) (w : Word) : State := s.accept w

/-- The command in flight of `flying s w`. -/
def flight (s : State) (w : Word) : InFlight := ⟨w, s.snapshot⟩

/-- With the given turns ahead. -/
def ahead (s : State) (turns : List Turn) : State := { s with schedule := turns }

/-- Both key schedules stand: DRK of a weak key, AW all 0 for ANR = 10. -/
def keyed : State := { State.reset with dkv := true, akv := true, anr := 10 }

theorem witness_EncodeOfDecode : decode 0x87654340 = .ok (.perm ⟨0x43, 0x65, 7, 8⟩) := by decide
theorem witness_DecodeSelectsByAssignedOp : opField 0x10000011 ∈ ([0x00, 0x01, 0x10, 0x11, 0x12, 0x13, 0x14,
      0x20, 0x21, 0x22, 0x23, 0x24, 0x25, 0x26, 0x27, 0x28, 0x29, 0x30, 0x31, 0x32, 0x33, 0x34, 0x40] : List (BitVec 8)) ∧
    opField 0xFFFFFFFF ∉ ([0x00, 0x01, 0x10, 0x11, 0x12, 0x13, 0x14,
      0x20, 0x21, 0x22, 0x23, 0x24, 0x25, 0x26, 0x27, 0x28, 0x29, 0x30, 0x31, 0x32, 0x33, 0x34, 0x40] : List (BitVec 8)) := by
  decide
theorem witness_StepRunsTheCommandInFlight :
    (flying State.reset 0x810).inflight = some (flight State.reset 0x810) ∧
    decode (flight State.reset 0x810).cmd = .ok (.desKs ⟨8, 0, 0, 0⟩) ∧
    (flying State.reset 0x810).schedule = [] ∧
    (ahead (flying State.reset 0x810) [.engine, .reset]).schedule = .engine :: [.reset] := ⟨rfl, by decide, rfl, rfl⟩
theorem witness_UnassignedOpEndsWithIllegal :
    (flying State.reset 0x41).inflight = some (flight State.reset 0x41) ∧
    decode (flight State.reset 0x41).cmd = .error (.unassignedOp 0x41) ∧ (flying State.reset 0x41).schedule = [] ∧
    (ahead (flying State.reset 0x41) [.engine]).schedule = .engine :: [] := ⟨rfl, by decide, rfl, rfl⟩
theorem witness_IdleEngineKeepsEveryRegister : State.reset.inflight = none ∧ State.reset.schedule = [] ∧
    (ahead State.reset [.engine]).inflight = none ∧ (ahead State.reset [.engine]).schedule = .engine :: [] :=
  ⟨rfl, rfl, rfl, rfl⟩
theorem witness_HostReadReturnsTheRegister : ((0x3FC : BitVec 10)).toNat % 4 = 0 ∧
    (ahead State.reset [.host (.read 32 0x3FC)]).schedule = .host (.read 32 0x3FC) :: [] := by decide
theorem witness_MalformedAccessIsRefused :
    ((31 : Nat) ≠ 32 ∨ ((0x000 : BitVec 10)).toNat % 4 ≠ 0) ∧ ((33 : Nat) ≠ 32 ∨ ((0x3FC : BitVec 10)).toNat % 4 ≠ 0) ∧
    ((32 : Nat) ≠ 32 ∨ ((0x001 : BitVec 10)).toNat % 4 ≠ 0) ∧ ((32 : Nat) ≠ 32 ∨ ((0x3FF : BitVec 10)).toNat % 4 ≠ 0) ∧
    (ahead State.reset [.host (.read 31 0)]).schedule = .host (.read 31 0) :: [] ∧
    (ahead State.reset [.host (.write 32 1 7)]).schedule = .host (.write 32 1 7) :: [] := by decide
/-- Every kind of writable register, the arrays at both ends; the frame at a neighbour. -/
theorem witness_WriteThenReadAndFrame :
    ((0x004 : BitVec 10).toNat % 4 = 0 ∧ (ahead State.reset [.host (.write 32 0x004 3)]).schedule = .host (.write 32 0x004 3) :: []) ∧
    dataWritable (regAt 0x004) ∧ dataWritable (regAt 0x020) ∧ dataWritable (regAt 0x02C) ∧ dataWritable (regAt 0x040) ∧
    dataWritable (regAt 0x05C) ∧ dataWritable (regAt 0x060) ∧ dataWritable (regAt 0x064) ∧ dataWritable (regAt 0x070) ∧
    dataWritable (regAt 0x074) ∧ dataWritable (regAt 0x080) ∧ dataWritable (regAt 0x0BC) ∧ Reg.din 1 ≠ regAt 0x020 :=
  ⟨by decide, trivial, trivial, trivial, trivial, trivial, trivial, trivial, trivial, trivial, trivial, trivial, by decide⟩
theorem witness_StatusWriteClearsFlags :
    (ahead State.reset [.host (.write 32 0x008 6)]).schedule = .host (.write 32 0x008 6) :: [] := rfl
theorem witness_ReadOnlyWriteIsIgnored :
    (0x2EC : BitVec 10).toNat % 4 = 0 ∧
    (ahead State.reset [.host (.write 32 0x2EC 6)]).schedule = .host (.write 32 0x2EC 6) :: [] ∧
    regAt 0x000 = .id ∧ (∃ i, regAt 0x030 = .dout i) ∧ (∃ i, regAt 0x03C = .dout i) ∧ regAt 0x068 = .gfR ∧
    (∃ i, regAt 0x078 = .pout i) ∧ (∃ i, regAt 0x07C = .pout i) ∧ (∃ i, regAt 0x100 = .drkHi i) ∧
    (∃ i, regAt 0x17C = .drkLo i) ∧ (∃ i, regAt 0x200 = .aw i) ∧ (∃ i, regAt 0x2EC = .aw i) :=
  ⟨by decide, rfl, by decide, ⟨0, by decide⟩, ⟨3, by decide⟩, by decide, ⟨0, by decide⟩, ⟨1, by decide⟩,
    ⟨0, by decide⟩, ⟨15, by decide⟩, ⟨0, by decide⟩, 59, by decide⟩
theorem witness_ReservedOffsetIsInert : (0x010 : BitVec 10).toNat % 4 = 0 ∧ regAt 0x010 = .reserved ∧
    regAt 0x3FC = .reserved ∧
    (ahead State.reset [.host (.write 32 0x010 6)]).schedule = .host (.write 32 0x010 6) :: [] ∧
    (ahead State.reset [.host (.read 32 0x010)]).schedule = .host (.read 32 0x010) :: [] := by decide
theorem witness_CommandIsAccepted : (ahead State.reset [.host (.write 32 0x00C 0xFF)]).inflight = none ∧
    (ahead State.reset [.host (.write 32 0x00C 0xFF)]).schedule = .host (.write 32 0x00C 0xFF) :: [] := ⟨rfl, rfl⟩
theorem witness_CommandIsRejectedWhileBusy :
    (ahead (flying State.reset 0) [.host (.write 32 0x00C 1)]).inflight ≠ none ∧
    (ahead (flying State.reset 0) [.host (.write 32 0x00C 1)]).schedule = .host (.write 32 0x00C 1) :: [] :=
  ⟨nofun, rfl⟩
theorem witness_HostAccessKeepsResultsAndFlight :
    (flying State.reset 0x810).inflight = some (flight State.reset 0x810) := rfl
theorem witness_ResetRestoresEverything : (ahead keyed [.reset]).schedule = .reset :: [] ∧ Reg.status ≠ .id :=
  ⟨rfl, by decide⟩
/-- A STATUS write, a CTRL write, an accepted command, a command that completes, one that fails, SRST. -/
theorem witness_InterruptLineFollowsFlags :
    (ahead State.reset [writeTurn 0x008 6]).schedule = .host (.write 32 0x008 6) :: [] ∧
    (ahead State.reset [writeTurn 0x004 3]).schedule = .host (.write 32 0x004 3) :: [] ∧
    ((ahead State.reset [writeTurn 0x00C 0]).inflight = none ∧
      (ahead State.reset [writeTurn 0x00C 0]).schedule = .host (.write 32 0x00C 0) :: []) ∧
    (∃ t, (∀ f, Instr.nop ⟨0, 0, 0, 0⟩ ≠ .srst f) ∧ (flying State.reset 0).done = false ∧
      exec (.nop ⟨0, 0, 0, 0⟩) (flying State.reset 0) = .next t ∧ t.done = true) ∧
    (∃ t, (∀ f, Instr.nop ⟨1, 0, 0, 0⟩ ≠ .srst f) ∧
      exec (.nop ⟨1, 0, 0, 0⟩) (flying State.reset 0x100) = .next t ∧ t.done = false) ∧
    ∃ t, exec (.srst ⟨0, 0, 0, 0⟩) (flying State.reset 1) = .next t ∧ t.done = true :=
  ⟨rfl, rfl, ⟨rfl, rfl⟩, ⟨_, nofun, rfl, rfl, rfl⟩, ⟨_, nofun, rfl, rfl⟩, _, rfl, rfl⟩
theorem witness_CommandInFlightEnds :
    (ahead (flying State.reset 0) [readTurn 0x008, .engine]).inflight = some (flight State.reset 0) ∧
    ∃ u, (0 : Nat) < 2 ∧ Sys2Proof.core.run 0 (ahead (flying State.reset 0) [readTurn 0x008, .engine]) = .next u :=
  ⟨rfl, _, by decide, rfl⟩
/-- A busy state with both schedules meets the invariant of STATUS, and steps. -/
theorem witness_StatusInvIsKept : StatusInv (flying keyed 0) ∧ ∃ t, step (flying keyed 0) = .next t :=
  ⟨⟨by decide, by decide, by decide, by decide, by decide, by decide, by decide, by decide +kernel⟩, _, rfl⟩
/-- A state with the DES schedule of the weak key 0. -/
theorem witness_ScheduleInvIsKept : ScheduleInv { State.reset with dkv := true } ∧
    ∃ t, step { State.reset with dkv := true } = .next t :=
  ⟨⟨fun _ => ⟨0, by decide +kernel⟩, nofun⟩, _, rfl⟩
theorem witness_ResultsDoNotDependOnLatency :
    (flying State.reset 0x30).inflight = some (flight State.reset 0x30) ∧ (flying State.reset 0x30).done = false ∧
    (∃ t, Sys2Proof.core.run 2 { flying State.reset 0x30 with
      schedule := [Access.write 32 0x060 1].map .host ++ .engine :: [] } = .next t) ∧
    ∃ u, step { flying State.reset 0x30 with schedule := .engine :: [] } = .next u := ⟨rfl, rfl, ⟨_, rfl⟩, _, rfl⟩
theorem witness_SchedulesChangeOnlyByKeyCommands :
    (∃ t, step (flying State.reset 0x810) = .next t ∧ t.dkv ≠ (flying State.reset 0x810).dkv) ∧
    ∃ t, step (flying State.reset 0x1020) = .next t ∧ t.anr ≠ (flying State.reset 0x1020).anr :=
  ⟨⟨_, rfl, by decide⟩, _, rfl, by decide⟩
theorem witness_CommandWritesOnlyItsRegisters :
    ∃ t, exec (.gfAdd ⟨0, 0, 0, 0⟩) (flying State.reset 0x30) = .next t ∧
      Reg.dout 0 ≠ .status ∧ ¬ writtenOnSuccess (.gfAdd ⟨0, 0, 0, 0⟩) (.dout 0) ∧
      ∀ f, (Instr.gfAdd ⟨0, 0, 0, 0⟩ ≠ .desKs f ∧ Instr.gfAdd ⟨0, 0, 0, 0⟩ ≠ .srst f) ∧
        (Instr.gfAdd ⟨0, 0, 0, 0⟩ ≠ .aesKs f) :=
  ⟨_, rfl, by decide, nofun, fun _ => ⟨⟨nofun, nofun⟩, nofun⟩⟩
/-- One command that fails, one that succeeds. -/
theorem witness_FailedCommandWritesOnlyStatus :
    (∃ t, exec (.desEnc ⟨8, 0, 0, 0⟩) (flying State.reset 0x811) = .next t ∧ t.done = false) ∧
    ∃ t, exec (.nop ⟨0, 0, 0, 0⟩) (flying State.reset 0) = .next t ∧ t.done = true :=
  ⟨⟨_, rfl, rfl⟩, _, rfl, rfl⟩

/-- The flight of the witnesses below: `i`'s own word. -/
theorem witness_inflight (s : State) (i : Instr) :
    (flying s (encode i)).inflight = some (flight s (encode i)) := rfl

/-- Each field of each of the four shapes of R74, alone, at 1. -/
theorem witness_ReservedFieldsEndWithRsvd :
    (flying State.reset 0x10000000).inflight = some (flight State.reset 0x10000000) ∧
    reservedViolated (.nop ⟨0, 0, 0, 1⟩) ∧ reservedViolated (.nop ⟨1, 0, 0, 0⟩) ∧ reservedViolated (.nop ⟨0, 1, 0, 0⟩) ∧
    reservedViolated (.nop ⟨0, 0, 1, 0⟩) ∧ reservedViolated (.desKs ⟨8, 1, 0, 0⟩) ∧ reservedViolated (.desKs ⟨8, 0, 1, 0⟩) ∧
    reservedViolated (.desKs ⟨8, 0, 0, 8⟩) ∧ reservedViolated (.aesArk ⟨1, 0, 0, 0⟩) ∧ reservedViolated (.aesArk ⟨0, 0, 1, 0⟩) ∧
    reservedViolated (.aesArk ⟨0, 0, 0, 1⟩) ∧ reservedViolated (.perm ⟨4, 8, 4, 0⟩) ∧ reservedViolated (.perm ⟨4, 8, 8, 0⟩) ∧
    reservedViolated (.perm ⟨4, 8, 0, 1⟩) := by
  refine ⟨rfl, ?_⟩
  unfold reservedViolated
  decide
/-- Every length field, at the values beside the legal ones. -/
theorem witness_LengthErrorsComeSecond :
    (flying State.reset 0x710).inflight = some (flight State.reset 0x710) ∧
    (¬ reservedViolated (.desKs ⟨7, 0, 0, 0⟩) ∧ lengthError (.desKs ⟨7, 0, 0, 0⟩) = some .keyLen) ∧
    (¬ reservedViolated (.desEnc ⟨9, 0, 0, 0⟩) ∧ lengthError (.desEnc ⟨9, 0, 0, 0⟩) = some .blkLen) ∧
    (¬ reservedViolated (.aesKs ⟨33, 0, 0, 0⟩) ∧ lengthError (.aesKs ⟨33, 0, 0, 0⟩) = some .keyLen) ∧
    (¬ reservedViolated (.aesDec ⟨15, 0, 0, 0⟩) ∧ lengthError (.aesDec ⟨15, 0, 0, 0⟩) = some .blkLen) ∧
    (¬ reservedViolated (.perm ⟨0, 64, 0, 0⟩) ∧ lengthError (.perm ⟨0, 64, 0, 0⟩) = some .permLen) ∧
    (¬ reservedViolated (.perm ⟨1, 65, 0, 0⟩) ∧ lengthError (.perm ⟨1, 65, 0, 0⟩) = some .permLen) := by
  refine ⟨rfl, ?_⟩
  unfold reservedViolated
  decide
theorem witness_MissingKeyComesThird :
    (flying State.reset 0x811).inflight = some (flight State.reset 0x811) ∧
    (¬ reservedViolated (.desEnc ⟨8, 0, 0, 0⟩) ∧ lengthError (.desEnc ⟨8, 0, 0, 0⟩) = none ∧
      keyMissing (flying State.reset 0x811) (.desEnc ⟨8, 0, 0, 0⟩)) ∧
    (¬ reservedViolated (.aesDec ⟨16, 0, 0, 0⟩) ∧ lengthError (.aesDec ⟨16, 0, 0, 0⟩) = none ∧
      keyMissing (flying State.reset 0x811) (.aesDec ⟨16, 0, 0, 0⟩)) ∧
    (¬ reservedViolated (.aesArk ⟨0, 255, 0, 0⟩) ∧ lengthError (.aesArk ⟨0, 255, 0, 0⟩) = none ∧
      keyMissing (flying State.reset 0x811) (.aesArk ⟨0, 255, 0, 0⟩)) := by
  refine ⟨rfl, ?_⟩
  unfold reservedViolated keyMissing
  decide
theorem witness_RoundIndexAboveAnrIsRefused :
    (flying keyed 0x000B0026).inflight = some (flight keyed 0x000B0026) ∧ ¬ reservedViolated (.aesArk ⟨0, 11, 0, 0⟩) ∧
    (flying keyed 0x000B0026).akv = true ∧ (flying keyed 0x000B0026).anr.toNat < (11 : BitVec 8).toNat := by
  refine ⟨rfl, ?_, rfl, by decide⟩
  unfold reservedViolated
  decide
/-- Entry 0 with base1, and entry 8 of V-P3 with base0. -/
theorem witness_PermEntryOutOfRangeIsRefused :
    (flying permState 0x00080540).inflight = some (flight permState 0x00080540) ∧
    (¬ reservedViolated (.perm ⟨5, 8, 0, 0⟩) ∧ lengthError (.perm ⟨5, 8, 0, 0⟩) = none ∧
      ∃ e, e < (5 : BitVec 8).toNat ∧ ¬ permEntryLegal ⟨5, 8, 0, 0⟩ ((flight permState 0x00080540).snap.ptabEntry e)) ∧
    (¬ reservedViolated (.perm ⟨4, 8, 1, 0⟩) ∧ lengthError (.perm ⟨4, 8, 1, 0⟩) = none ∧
      ∃ e, e < (4 : BitVec 8).toNat ∧ ¬ permEntryLegal ⟨4, 8, 1, 0⟩ ((flight permState 0x01080440).snap.ptabEntry e)) := by
  refine ⟨rfl, ⟨?_, by decide, 4, by decide, ?_⟩, ?_, by decide, 0, by decide, ?_⟩ <;>
    first
    | (unfold reservedViolated; decide)
    | (unfold permEntryLegal; decide)
theorem witness_NopOnlyCompletes : (flying State.reset 0).inflight = some (flight State.reset 0) ∧
    ¬ reservedViolated (.nop ⟨0, 0, 0, 0⟩) := by
  refine ⟨rfl, ?_⟩
  unfold reservedViolated
  decide
theorem witness_SrstResetsAndSetsDone : (flying keyed 1).inflight = some (flight keyed 1) ∧
    ¬ reservedViolated (.srst ⟨0, 0, 0, 0⟩) := by
  refine ⟨rfl, ?_⟩
  unfold reservedViolated
  decide
theorem witness_DesKsStoresTheSchedule : (flying State.reset 0x810).inflight = some (flight State.reset 0x810) ∧
    ¬ reservedViolated (.desKs ⟨8, 0, 0, 0⟩) ∧ (⟨8, 0, 0, 0⟩ : Args).a = 8 := by
  refine ⟨rfl, ?_, rfl⟩
  unfold reservedViolated
  decide
theorem witness_DesEncDecTransformTheBlock : (flying keyed 0x811).inflight = some (flight keyed 0x811) ∧
    (flying keyed 0x811).dkv = true ∧ (⟨8, 0, 0, 0⟩ : Args).a = 8 ∧ (⟨8, 0, 0, 0⟩ : Args).rsv = 0 ∧
    (⟨8, 0, 0, 0⟩ : Args).b = 0 ∧ (⟨8, 0, 0, 0⟩ : Args).c = 0 := ⟨rfl, rfl, rfl, rfl, rfl, rfl⟩
theorem witness_AesEncDecTransformTheBlock : (flying keyed 0x1021).inflight = some (flight keyed 0x1021) ∧
    (flying keyed 0x1021).akv = true ∧ (⟨16, 0, 0, 0⟩ : Args).a = 16 ∧ (⟨16, 0, 0, 0⟩ : Args).rsv = 0 ∧
    (⟨16, 0, 0, 0⟩ : Args).b = 0 ∧ (⟨16, 0, 0, 0⟩ : Args).c = 0 := ⟨rfl, rfl, rfl, rfl, rfl, rfl⟩
/-- For DES_F, DES_S, the state commands and the GF commands: no field set. -/
theorem witness_DesFAndDesSGiveOneWord : (flying State.reset 0x13).inflight = some (flight State.reset 0x13) ∧
    (⟨0, 0, 0, 0⟩ : Args).rsv = 0 ∧ (⟨0, 0, 0, 0⟩ : Args).a = 0 ∧ (⟨0, 0, 0, 0⟩ : Args).b = 0 ∧
    (⟨0, 0, 0, 0⟩ : Args).c = 0 := ⟨rfl, rfl, rfl, rfl, rfl⟩
theorem witness_AesSbIsbSubstituteEveryByte : (flying State.reset 0x23).inflight = some (flight State.reset 0x23) ∧
    (⟨0, 0, 0, 0⟩ : Args).rsv = 0 ∧ (⟨0, 0, 0, 0⟩ : Args).a = 0 ∧ (⟨0, 0, 0, 0⟩ : Args).b = 0 ∧
    (⟨0, 0, 0, 0⟩ : Args).c = 0 := ⟨rfl, rfl, rfl, rfl, rfl⟩
theorem witness_AesSrIsrRotateRows : (flying State.reset 0x24).inflight = some (flight State.reset 0x24) ∧
    (⟨0, 0, 0, 0⟩ : Args).rsv = 0 ∧ (⟨0, 0, 0, 0⟩ : Args).a = 0 ∧ (⟨0, 0, 0, 0⟩ : Args).b = 0 ∧
    (⟨0, 0, 0, 0⟩ : Args).c = 0 := ⟨rfl, rfl, rfl, rfl, rfl⟩
theorem witness_AesMcImcMixColumns : (flying State.reset 0x25).inflight = some (flight State.reset 0x25) ∧
    (⟨0, 0, 0, 0⟩ : Args).rsv = 0 ∧ (⟨0, 0, 0, 0⟩ : Args).a = 0 ∧ (⟨0, 0, 0, 0⟩ : Args).b = 0 ∧
    (⟨0, 0, 0, 0⟩ : Args).c = 0 := ⟨rfl, rfl, rfl, rfl, rfl⟩
theorem witness_GfCommandsWriteGfR : (flying State.reset 0x30).inflight = some (flight State.reset 0x30) ∧
    (⟨0, 0, 0, 0⟩ : Args).rsv = 0 ∧ (⟨0, 0, 0, 0⟩ : Args).a = 0 ∧ (⟨0, 0, 0, 0⟩ : Args).b = 0 ∧
    (⟨0, 0, 0, 0⟩ : Args).c = 0 := ⟨rfl, rfl, rfl, rfl, rfl⟩
/-- Each key length, with the words on both sides of the schedule's end. -/
theorem witness_AesKsStoresTheExpansion :
    (flying State.reset 0x1020).inflight = some (flight State.reset 0x1020) ∧
    (¬ reservedViolated (.aesKs ⟨16, 0, 0, 0⟩) ∧ (16 : BitVec 8).toNat = 4 * 4 ∧ ((43 : Fin 60).val < 4 * (4 + 7)) ∧
      4 * (4 + 7) ≤ (44 : Fin 60).val) ∧
    (¬ reservedViolated (.aesKs ⟨24, 0, 0, 0⟩) ∧ (24 : BitVec 8).toNat = 4 * 6 ∧ ((51 : Fin 60).val < 4 * (6 + 7)) ∧
      4 * (6 + 7) ≤ (52 : Fin 60).val) ∧
    (¬ reservedViolated (.aesKs ⟨32, 0, 0, 0⟩) ∧ (32 : BitVec 8).toNat = 4 * 8 ∧ ((59 : Fin 60).val < 4 * (8 + 7))) := by
  refine ⟨rfl, ?_⟩
  unfold reservedViolated
  decide
theorem witness_AesArkXorsTheRoundKey : StatusInv (flying keyed 0x000A0026) ∧
    (flying keyed 0x000A0026).inflight = some (flight keyed 0x000A0026) ∧ ¬ reservedViolated (.aesArk ⟨0, 10, 0, 0⟩) ∧
    (flying keyed 0x000A0026).akv = true ∧ (10 : BitVec 8).toNat ≤ (flying keyed 0x000A0026).anr.toNat := by
  refine ⟨⟨by decide, by decide, by decide, by decide, by decide, by decide, by decide, by decide +kernel⟩, rfl, ?_, rfl, by decide⟩
  unfold reservedViolated
  decide
/-- V-P2: m = 4, n = 8, the positions on both sides of m. -/
theorem witness_PermSelectsBits : (flying permState 0x02080440).inflight = some (flight permState 0x02080440) ∧
    ¬ reservedViolated (.perm ⟨4, 8, 2, 0⟩) ∧ lengthError (.perm ⟨4, 8, 2, 0⟩) = none ∧
    (∀ e, e < (4 : BitVec 8).toNat → permEntryLegal ⟨4, 8, 2, 0⟩ ((flight permState 0x02080440).snap.ptabEntry e)) ∧
    3 < (4 : BitVec 8).toNat ∧ (4 : BitVec 8).toNat ≤ 4 := by
  refine ⟨rfl, ?_, by decide, ?_, by decide, by decide⟩
  · unfold reservedViolated
    decide
  · unfold permEntryLegal
    decide +kernel
/-- A table and its inverse that differ: the cycle 1 → 2 → 3 → 1. -/
theorem witness_InversePermutationsCancel : isPermutationTable 3 [2, 3, 1] ∧ ([3, 1, 2] : List Nat).length = 3 ∧
    (∀ i, i < 3 → ([3, 1, 2] : List Nat).getD (([2, 3, 1] : List Nat).getD i 0 - 1) 0 = i + 1) := by
  unfold isPermutationTable
  decide
/-- nk = 8, with a key word, a word on an nk boundary, one at i mod 8 = 4 and the last. -/
theorem witness_KeyExpansionRecurrence : ((8 : Nat) = 4 ∨ (8 : Nat) = 6 ∨ (8 : Nat) = 8) ∧
    (List.replicate 8 (0x63 : Word)).length = 8 ∧ (7 : Nat) < 8 ∧ ((8 : Nat) ≤ 8 ∧ 8 % 8 = 0) ∧ ((8 : Nat) ≤ 12 ∧ 12 % 8 = 4) ∧
    ((8 : Nat) ≤ 59 ∧ 59 < 4 * (8 + 6 + 1)) := by decide
theorem witness_FieldLaws : (0x53 : Byte) ≠ 0 := by decide
theorem witness_InverseIsTheOneByte : (0x53 : Byte) ≠ 0 ∧ gmul 0x53 0xCA = 1 := by decide +kernel

end Sys2Proof.Tests
end

namespace Sys2Proof.Machine

/-! ### What a command can leave, and what a step can do

The laws of exec, engineStep and step give the shapes of their answers one layer at a time. The two predicates
below put them together, so that a proof about every step is one case split with named cases. -/

/-- What the completion of the command `i`, in flight as `l`, can leave (R192, R201, R75): an error, a reset,
one key schedule, or nothing beside the result registers. -/
inductive Completion (s : State) (l : InFlight) : Instr → State → Prop
  | failed (i : Instr) (code : ErrCode) (hcode : code ≠ .none) : Completion s l i (failedWith s code)
  | srst (f : Args) : Completion s l (.srst f) { s.resetRegisters with done := true }
  | desKs (f : Args) : Completion s l (.desKs f)
      { s with
        drk := tabulate 16 fun k => (desKeySchedule l.snap.desKey).getD k 0
        dkv := true, done := true, inflight := none }
  | aesKs (f : Args) (nk : Nat) (hnk : nk = 4 ∨ nk = 6 ∨ nk = 8) : Completion s l (.aesKs f)
      { s with
        aw := awFile s.sboxAffine nk (l.snap.keyWords nk), akv := true
        anr := BitVec.ofNat 4 (roundsOf nk), done := true, inflight := none }
  | result (i : Instr) (dout : Vector Word 4) (gfR : Byte) (pout : Vector Word 2) : Completion s l i
      { s with dout := dout, gfR := gfR, pout := pout, done := true, inflight := none }

/-- Every answer of `exec` is a completion of the command in flight. -/
theorem exec_completion {i : Instr} {s t : State} (h : exec i s = .next t) :
    ∃ l, s.inflight = some l ∧ Completion s l i t := by
  obtain ⟨body, hexec, herror, hok⟩ := exec_eq_complete i s
  obtain ⟨l, hl, rfl⟩ := (complete_eq_next s body t).mp (hexec ▸ h)
  refine ⟨l, hl, ?_⟩
  cases hbody : body l.snap with
  | error code => exact .failed i code (herror _ _ hbody)
  | ok u =>
    obtain ⟨f, rfl, rfl⟩ | ⟨f, rfl, rfl⟩ | ⟨f, rfl, rfl⟩ | ⟨f, nk, rfl, hnk, rfl⟩ | ⟨-, -, q, rfl⟩ |
      ⟨-, -, x, rfl⟩ | ⟨-, -, y, rfl⟩ := hok _ _ hbody
    · exact .result _ u.dout u.gfR u.pout
    · exact .srst f
    · exact .desKs f
    · exact .aesKs f nk hnk
    · exact .result i q s.gfR s.pout
    · exact .result i s.dout x s.pout
    · exact .result i s.dout s.gfR _

/-- The state in which the turn that a step takes is taken: that turn is off the schedule. -/
def State.popTurn (s : State) : State := { s with schedule := s.schedule.tail }

/-- What a step can answer (R62, R192, R230): the hardware reset, a host access, an idle engine, or the end of
the command in flight, of an unassigned OP or of a command. -/
inductive StepResult (s : State) : State → Prop
  | reset (rest : List Turn) (hturn : s.schedule = .reset :: rest) : StepResult s s.popTurn.resetRegisters
  | host (a : Access) : StepResult s (s.popTurn.hostStep a)
  | idle (hidle : s.inflight = none) : StepResult s s.popTurn
  | illegal (l : InFlight) (e : DecodeError) (hl : s.inflight = some l) (he : decode l.cmd = .error e) :
    StepResult s (failedWith s.popTurn .illegal)
  | command (l : InFlight) (i : Instr) (t : State) (hl : s.inflight = some l) (hi : decode l.cmd = .ok i)
      (ht : Completion s.popTurn l i t) : StepResult s t

/-- Every answer of the engine's step, taken with the turn off the schedule. -/
theorem stepResult_of_engineStep {s t : State} (h : engineStep s.popTurn = .next t) : StepResult s t := by
  obtain ⟨hnone, hidle⟩ | ⟨l, e, hl, he, hillegal⟩ | ⟨l, i, hl, hi, hexec⟩ := engineStep_cases s.popTurn
  · rw [hidle] at h
    cases h
    exact .idle hnone
  · rw [hillegal] at h
    cases h
    exact .illegal l e hl he
  · rw [hexec] at h
    obtain ⟨l', hl', hcompletion⟩ := exec_completion h
    obtain rfl : l = l' := Option.some.inj (hl.symm.trans hl')
    exact .command l i t hl hi hcompletion

/-- Every answer of a step. -/
theorem stepResult_of_step {s t : State} (h : step s = .next t) : StepResult s t := by
  obtain ⟨hnil, hstep⟩ | ⟨a, rest, hturn, hstep⟩ | ⟨rest, hturn, hstep⟩ | ⟨rest, hturn, hstep⟩ := step_cases s
  · have hpop : s.popTurn = s := by cases s; simp_all [State.popTurn]
    exact stepResult_of_engineStep (by rw [hpop, ← hstep, h])
  · have hpop : { s with schedule := rest } = s.popTurn := by simp [State.popTurn, hturn]
    rw [hstep, hpop] at h
    cases h
    exact .host a
  · have hpop : { s with schedule := rest } = s.popTurn := by simp [State.popTurn, hturn]
    exact stepResult_of_engineStep (by rw [← hpop, ← hstep, h])
  · have hpop : { s with schedule := rest } = s.popTurn := by simp [State.popTurn, hturn]
    rw [hstep, hpop] at h
    cases h
    exact .reset rest hturn

end Sys2Proof.Machine

namespace Sys2Proof.Machine

/-! ### Host accesses -/

/-- What no host access changes: the result registers, the key schedules with their flags, and SBOX_AFFINE
(R23, R29 to R31). -/
structure ResultsKept (s t : State) : Prop where
  dout : t.dout = s.dout
  gfR : t.gfR = s.gfR
  pout : t.pout = s.pout
  drk : t.drk = s.drk
  aw : t.aw = s.aw
  dkv : t.dkv = s.dkv
  akv : t.akv = s.akv
  anr : t.anr = s.anr
  sboxAffine : t.sboxAffine = s.sboxAffine

/-- A rejected command writes ERR and ERRCODE, an accepted one those, DONE and the latch (R190, R191). -/
theorem writeCmd_resultsKept (s : State) (v : Word) : ResultsKept s (s.writeCmd v) := by
  rw [writeCmd_eq]
  split <;> constructor <;> simp

/-- A write to a register reaches no result register, schedule or flag of one (R57). -/
theorem writeReg_resultsKept (s : State) (r : Reg) (v : Word) : ResultsKept s (s.writeReg r v) := by
  cases r with
  | status => constructor <;> simp [State.writeReg]
  | cmd => exact writeCmd_resultsKept s v
  | _ => constructor <;> rfl

/-- A host access is a read of some value, a refused access, or a write to a register (R51, R58, R59): what
holds after each of these holds after every access. -/
theorem hostStep_rec {P : State → Prop} {s : State} (a : Access) (hread : ∀ x, P { s with rdata := x })
    (hrefused : ∀ x, P { s.raise .bus with rdata := x }) (hwrite : ∀ r v, P (s.writeReg r v)) :
    P (s.hostStep a) := by
  obtain ⟨w, off, rfl, _, h⟩ | ⟨w, off, rfl, _, h⟩ | ⟨w, off, v, rfl, _, h⟩ | ⟨w, off, v, rfl, _, h⟩ :=
    hostStep_cases s a <;> rw [h]
  · exact hread _
  · exact hrefused 0
  · exact hwrite _ v
  · exact hrefused s.rdata

/-- The frame of a host access: no read, refusal or write reaches them (R57 to R59). -/
theorem hostStep_resultsKept (s : State) (a : Access) : ResultsKept s (s.hostStep a) := by
  refine hostStep_rec a ?read ?refused (writeReg_resultsKept s)
  case read | refused => intro _; constructor <;> rfl

/-- A command in flight is the same after a write to any register, CMD included (R191). -/
theorem writeReg_inflight (s : State) (r : Reg) (v : Word) (l : InFlight) (hl : s.inflight = some l) :
    (s.writeReg r v).inflight = some l := by
  cases r with
  | cmd => simp [State.writeReg, writeCmd_eq, hl]
  | status => simp [State.writeReg, hl]
  | _ => exact hl

/-- A command in flight is the same after a host access (R32, R66). -/
theorem hostStep_inflight (s : State) (a : Access) (l : InFlight) (hl : s.inflight = some l) :
    (s.hostStep a).inflight = some l :=
  hostStep_rec (P := fun t => t.inflight = some l) a (fun _ => hl) (fun _ => hl)
    fun r v => writeReg_inflight s r v l hl

/-- Settles O18: the frame of a host access, and the latch. -/
theorem hostAccessKeepsResultsAndFlight : Obligations.HostAccessKeepsResultsAndFlight := by
  intro s a
  obtain ⟨hdout, hgfR, hpout, hdrk, haw, hdkv, hakv, hanr, -⟩ := hostStep_resultsKept s a
  exact ⟨hdout, hgfR, hpout, hdrk, haw, hdkv, hakv, hanr, hostStep_inflight s a⟩

/-! ### How a step changes the key schedules -/

/-- A step may put every register at its reset value: the hardware reset is the next turn (R230), or the
command in flight is SRST (R194). -/
def ResetDue (s : State) : Prop :=
  (∃ rest, s.schedule = .reset :: rest) ∨ ∃ l f, s.inflight = some l ∧ decode l.cmd = .ok (.srst f)

/-- How a step can change DRK and DKV (R29, R31). -/
inductive DesChange (s t : State) : Prop
  | kept (hdrk : t.drk = s.drk) (hdkv : t.dkv = s.dkv)
  | cleared (hdue : ResetDue s) (hdrk : t.drk = Vector.replicate 16 0) (hdkv : t.dkv = false)
  | stored (l : InFlight) (f : Args) (hl : s.inflight = some l) (hi : decode l.cmd = .ok (.desKs f))
      (hdrk : t.drk = tabulate 16 fun k => (desKeySchedule l.snap.desKey).getD k 0) (hdkv : t.dkv = true)

/-- How a step can change AW, AKV and ANR (R30, R31). -/
inductive AesChange (s t : State) : Prop
  | kept (haw : t.aw = s.aw) (hakv : t.akv = s.akv) (hanr : t.anr = s.anr)
  | cleared (hdue : ResetDue s) (haw : t.aw = Vector.replicate 60 0) (hakv : t.akv = false) (hanr : t.anr = 0)
  | stored (l : InFlight) (f : Args) (nk : Nat) (hl : s.inflight = some l)
      (hi : decode l.cmd = .ok (.aesKs f)) (hnk : nk = 4 ∨ nk = 6 ∨ nk = 8)
      (haw : t.aw = awFile s.sboxAffine nk (l.snap.keyWords nk)) (hakv : t.akv = true)
      (hanr : t.anr = BitVec.ofNat 4 (roundsOf nk))

/-- Every change of DRK and DKV has its cause: the host reaches neither, a command only by DES_KS or SRST. -/
theorem step_desChange {s t : State} (h : step s = .next t) : DesChange s t := by
  cases stepResult_of_step h with
  | reset rest hturn => exact .cleared (.inl ⟨rest, hturn⟩) rfl rfl
  | host a => exact .kept (hostStep_resultsKept s.popTurn a).drk (hostStep_resultsKept s.popTurn a).dkv
  | idle => exact .kept rfl rfl
  | illegal => exact .kept rfl rfl
  | command l i t hl hi ht =>
    cases ht with
    | srst f => exact .cleared (.inr ⟨l, f, hl, hi⟩) rfl rfl
    | desKs f => exact .stored l f hl hi rfl rfl
    | failed | aesKs | result => exact .kept rfl rfl

/-- Every change of AW, AKV and ANR has its cause: the host reaches none, a command only by AES_KS or SRST. -/
theorem step_aesChange {s t : State} (h : step s = .next t) : AesChange s t := by
  cases stepResult_of_step h with
  | reset rest hturn => exact .cleared (.inl ⟨rest, hturn⟩) rfl rfl rfl
  | host a =>
    obtain ⟨-, -, -, -, haw, -, hakv, hanr, -⟩ := hostStep_resultsKept s.popTurn a
    exact .kept haw hakv hanr
  | idle => exact .kept rfl rfl rfl
  | illegal => exact .kept rfl rfl rfl
  | command l i t hl hi ht =>
    cases ht with
    | srst f => exact .cleared (.inr ⟨l, f, hl, hi⟩) rfl rfl rfl
    | aesKs f nk hnk => exact .stored l f nk hl hi hnk rfl rfl rfl
    | failed | desKs | result => exact .kept rfl rfl rfl

/-- No step changes the setting of SBOX_AFFINE (R5). -/
theorem step_sboxAffine {s t : State} (h : step s = .next t) : t.sboxAffine = s.sboxAffine := by
  cases stepResult_of_step h with
  | host a => exact (hostStep_resultsKept s.popTurn a).sboxAffine
  | command l i t hl hi ht => cases ht <;> rfl
  | reset | idle | illegal => rfl

/-- Settles O28: a change is not `kept`, and the other two cases name their cause. -/
theorem schedulesChangeOnlyByKeyCommands : Obligations.SchedulesChangeOnlyByKeyCommands := by
  intro s t hstep
  constructor
  · intro hchanged
    cases step_desChange hstep with
    | kept hdrk hdkv => simp [hdrk, hdkv] at hchanged
    | cleared hdue => exact hdue.imp_right fun ⟨l, f, hl, hi⟩ => ⟨l, f, hl, .inr hi⟩
    | stored l f hl hi => exact .inr ⟨l, f, hl, .inl hi⟩
  · intro hchanged
    cases step_aesChange hstep with
    | kept haw hakv hanr => simp [haw, hakv, hanr] at hchanged
    | cleared hdue => exact hdue.imp_right fun ⟨l, f, hl, hi⟩ => ⟨l, f, hl, .inr hi⟩
    | stored l f nk hl hi => exact .inr ⟨l, f, hl, .inl hi⟩

/-! ### The files hold a schedule of some key -/

/-- A file tabulated from a list of its own length lists it back. -/
theorem toList_tabulate_getD {α : Type} (n : Nat) (xs : List α) (d : α) (h : xs.length = n) :
    (tabulate n fun i => xs.getD i d).toList = xs := by
  apply List.ext_getElem
  · simp [h]
  · intro i hi _
    have hi' : i < xs.length := by simpa [h] using hi
    simp [hi']

/-- The key words that AES_KS takes are as many as it asks for, up to eight (R175). -/
theorem keyWords_length (p : Snapshot) (nk : Nat) (h : nk ≤ 8) : (p.keyWords nk).length = nk := by
  simp [Snapshot.keyWords, h]

/-- ANR shows the round count of every key length (R163, R175). -/
theorem toNat_roundsOf (nk : Nat) (h : nk = 4 ∨ nk = 6 ∨ nk = 8) :
    (BitVec.ofNat 4 (roundsOf nk)).toNat = nk + 6 := by
  obtain rfl | rfl | rfl := h <;> rfl

/-- Settles O26: by how the step changes each file. -/
theorem scheduleInvIsKept : Obligations.ScheduleInvIsKept := by
  intro s t hinv hstep
  constructor
  case des =>
    intro hdkv
    unfold State.desSchedule
    cases step_desChange hstep with
    | kept hdrk hdkv' => exact hdrk ▸ hinv.des (hdkv' ▸ hdkv)
    | cleared _ _ hdkv' => simp [hdkv'] at hdkv
    | stored l f _ _ hdrk =>
      exact ⟨l.snap.desKey, hdrk ▸ toList_tabulate_getD 16 _ 0 (desKeySchedule_length _)⟩
  case aes =>
    intro hakv
    rw [step_sboxAffine hstep]
    cases step_aesChange hstep with
    | kept haw hakv' hanr =>
      rw [haw, hanr]
      exact hinv.aes (hakv' ▸ hakv)
    | cleared _ _ hakv' => simp [hakv'] at hakv
    | stored l f nk _ _ hnk haw _ hanr =>
      exact ⟨nk, l.snap.keyWords nk, hnk, keyWords_length _ _ (by omega), hanr ▸ toNat_roundsOf nk hnk, haw⟩

/-! ### The invariant of STATUS -/

/-- The clauses of `StatusInv` on BUSY, DONE, ERR and ERRCODE (R19). -/
structure FlagsInv (s : State) : Prop where
  noCode : s.err = false → s.errCode = .none
  hasCode : s.err = true → s.errCode ≠ .none
  busyNotDone : s.busy = true → s.done = false

/-- The clauses of `StatusInv` on AKV, ANR and AW (R19, R30). -/
structure AesFileInv (s : State) : Prop where
  keyRounds : s.akv = false ↔ s.anr = 0
  rounds : s.anr = 0 ∨ s.anr = 10 ∨ s.anr = 12 ∨ s.anr = 14
  noAesKey : s.akv = false → s.aw = Vector.replicate 60 0
  above : ∀ i : Fin 60, 4 * (s.anr.toNat + 1) ≤ i.val → s.aw[i] = 0

theorem StatusInv.flags {s : State} (h : StatusInv s) : FlagsInv s := ⟨h.noCode, h.hasCode, h.busyNotDone⟩

theorem StatusInv.aesFile {s : State} (h : StatusInv s) : AesFileInv s :=
  ⟨h.keyRounds, h.rounds, h.noAesKey, h.above⟩

/-- `StatusInv` is its two groups of clauses and the clause on DRK. -/
theorem StatusInv.of_parts {s : State} (hflags : FlagsInv s)
    (hdes : s.dkv = false → s.drk = Vector.replicate 16 0) (haes : AesFileInv s) : StatusInv s :=
  ⟨hflags.noCode, hflags.hasCode, haes.keyRounds, haes.rounds, hflags.busyNotDone, hdes, haes.noAesKey,
    haes.above⟩

/-- An error with a code, recorded without a rise of DONE, or of BUSY, keeps the flags in order (R203). -/
theorem FlagsInv.of_error {s t : State} (h : FlagsInv s) (code : ErrCode) (hcode : code ≠ .none)
    (herr : t.err = true) (herrCode : t.errCode = code) (hdone : t.done = s.done)
    (hbusy : t.busy = true → s.busy = true) : FlagsInv t :=
  ⟨fun h' => by simp [herr] at h', fun _ => herrCode ▸ hcode, fun h' => hdone ▸ h.busyNotDone (hbusy h')⟩

/-- A completed command leaves no command in flight, so DONE may be set; ERR and ERRCODE stay (R192). -/
theorem FlagsInv.of_idle {s t : State} (h : FlagsInv s) (herr : t.err = s.err) (herrCode : t.errCode = s.errCode)
    (hidle : t.inflight = none) : FlagsInv t :=
  ⟨by rw [herr, herrCode]; exact h.noCode, by rw [herr, herrCode]; exact h.hasCode, by simp [State.busy, hidle]⟩

/-- Nothing but the error flags, DONE and the latch matters to the flags. -/
theorem FlagsInv.of_eq {s t : State} (h : FlagsInv s) (herr : t.err = s.err) (herrCode : t.errCode = s.errCode)
    (hdone : t.done = s.done) (hinflight : t.inflight = s.inflight) : FlagsInv t := by
  obtain ⟨hnoCode, hhasCode, hbusyNotDone⟩ := h
  constructor <;> simpa only [herr, herrCode, hdone, State.busy, hinflight]

/-- A write to CMD is rejected with a code, or clears DONE, ERR and ERRCODE (R190, R191). -/
theorem writeCmd_flagsInv {s : State} (h : FlagsInv s) (v : Word) : FlagsInv (s.writeCmd v) := by
  rw [writeCmd_eq]
  split
  · exact h.of_error .busy (by decide) rfl rfl rfl id
  · constructor <;> simp

/-- A write of STATUS clears ERR and ERRCODE together and sets nothing (R20). -/
theorem writeStatus_flagsInv {s : State} (h : FlagsInv s) (v : Word) : FlagsInv (s.writeStatus v) := by
  obtain ⟨hnoCode, hhasCode, hbusyNotDone⟩ := h
  constructor
  · rw [State.writeStatus_err, State.writeStatus_errCode]
    cases v.getLsbD 2 with
    | false => simpa using hnoCode
    | true => simp
  · rw [State.writeStatus_err, State.writeStatus_errCode]
    cases v.getLsbD 2 with
    | false => simpa using hhasCode
    | true => simp
  · intro hbusy
    simp [hbusyNotDone (by simpa [State.busy] using hbusy)]

theorem writeReg_flagsInv {s : State} (h : FlagsInv s) (r : Reg) (v : Word) : FlagsInv (s.writeReg r v) := by
  cases r with
  | status => exact writeStatus_flagsInv h v
  | cmd => exact writeCmd_flagsInv h v
  | _ => exact h.of_eq rfl rfl rfl rfl

theorem hostStep_flagsInv {s : State} (h : FlagsInv s) (a : Access) : FlagsInv (s.hostStep a) :=
  hostStep_rec a (fun _ => h.of_eq rfl rfl rfl rfl) (fun _ => h.of_error .bus (by decide) rfl rfl rfl id)
    (writeReg_flagsInv h)

/-- An error of the command in flight has a code, and empties the latch (R201). -/
theorem failedWith_flagsInv {s : State} (h : FlagsInv s) (code : ErrCode) (hcode : code ≠ .none) :
    FlagsInv (failedWith s code) :=
  h.of_error code hcode rfl rfl rfl (by simp [State.busy, failedWith])

theorem completion_flagsInv {s t : State} {l : InFlight} {i : Instr} (h : FlagsInv s) (ht : Completion s l i t) :
    FlagsInv t := by
  cases ht with
  | failed _ code hcode => exact failedWith_flagsInv h code hcode
  | srst => constructor <;> simp [State.busy]
  | desKs | aesKs | result => exact h.of_idle rfl rfl rfl

theorem step_flagsInv {s t : State} (h : FlagsInv s) (hstep : step s = .next t) : FlagsInv t := by
  have hpop : FlagsInv s.popTurn := h.of_eq rfl rfl rfl rfl
  cases stepResult_of_step hstep with
  | reset => constructor <;> simp [State.busy]
  | host a => exact hostStep_flagsInv hpop a
  | idle => exact hpop
  | illegal => exact failedWith_flagsInv hpop .illegal (by decide)
  | command l i t hl hi ht => exact completion_flagsInv hpop ht

/-- A step leaves DRK zero where it leaves DKV 0 (R29). -/
theorem step_noDesKey {s t : State} (h : s.dkv = false → s.drk = Vector.replicate 16 0) (hstep : step s = .next t) :
    t.dkv = false → t.drk = Vector.replicate 16 0 := by
  intro hdkv
  cases step_desChange hstep with
  | kept hdrk hdkv' => exact hdrk ▸ h (hdkv' ▸ hdkv)
  | cleared _ hdrk => exact hdrk
  | stored _ _ _ _ _ hdkv' => simp [hdkv'] at hdkv

/-- AES_KS writes 0 in the words above the schedule (R175). -/
theorem awFile_above (p : SboxAffine) (nk : Nat) (key : List Word) (hkey : key.length = nk) (i : Fin 60)
    (hi : 4 * (nk + 7) ≤ i.val) : (awFile p nk key)[i] = 0 := by
  have hlength : (aesKeySchedule p nk key).length ≤ i.val := by
    simp only [aesKeySchedule, expandKey_length, roundsOf]
    omega
  simp [awFile, hlength]

/-- The file after AES_KS meets the clauses on it. -/
theorem aesFileInv_stored {t : State} (p : SboxAffine) (snap : Snapshot) (nk : Nat)
    (hnk : nk = 4 ∨ nk = 6 ∨ nk = 8) (haw : t.aw = awFile p nk (snap.keyWords nk)) (hakv : t.akv = true)
    (hanr : t.anr = BitVec.ofNat 4 (roundsOf nk)) : AesFileInv t := by
  have hrounds : t.anr = 10 ∨ t.anr = 12 ∨ t.anr = 14 := by
    rw [hanr]
    obtain rfl | rfl | rfl := hnk <;> decide
  constructor
  · obtain h | h | h := hrounds <;> simp [hakv, h]
  · exact .inr hrounds
  · simp [hakv]
  · intro i hi
    rw [hanr, toNat_roundsOf nk hnk] at hi
    rw [haw]
    exact awFile_above p nk _ (keyWords_length _ _ (by omega)) i hi

theorem step_aesFileInv {s t : State} (h : AesFileInv s) (hstep : step s = .next t) : AesFileInv t := by
  cases step_aesChange hstep with
  | kept haw hakv hanr =>
    obtain ⟨hkeyRounds, hrounds, hnoAesKey, habove⟩ := h
    constructor <;> simpa only [haw, hakv, hanr]
  | cleared _ haw hakv hanr => constructor <;> simp [haw, hakv, hanr]
  | stored l _ nk _ _ hnk haw hakv hanr => exact aesFileInv_stored s.sboxAffine l.snap nk hnk haw hakv hanr

/-- Settles O24: each group of clauses is kept by itself. -/
theorem statusInvIsKept : Obligations.StatusInvIsKept := fun _ _ h hstep =>
  .of_parts (step_flagsInv h.flags hstep) (step_noDesKey h.noDesKey hstep) (step_aesFileInv h.aesFile hstep)

theorem resetWith_statusInv (p : SboxAffine) : StatusInv (State.resetWith p) := by
  constructor <;> simp [State.busy]

/-- At reset no schedule is claimed (R31, R36). -/
theorem resetWith_scheduleInv (p : SboxAffine) : ScheduleInv (State.resetWith p) := by
  constructor <;> simp

/-- Settles O25: `State.reset` is the reset state of the default setting. -/
theorem invariantsHoldAtReset : Obligations.InvariantsHoldAtReset :=
  ⟨resetWith_statusInv .constOnly, resetWith_scheduleInv .constOnly,
    fun p => ⟨resetWith_statusInv p, resetWith_scheduleInv p⟩⟩

end Sys2Proof.Machine

namespace Sys2Proof.Machine

/-! ### The register window -/

/-- Settles O10: the 256 offsets of R16, one by one. -/
theorem registerMapOffsets : Obligations.RegisterMapOffsets := by
  unfold Obligations.RegisterMapOffsets
  decide

/-- A byte register reads its byte with zeros above it (R25, R56). -/
theorem setWidth_byte_fields (x : Byte) :
    (x.setWidth 32).extractLsb' 0 8 = x ∧ (x.setWidth 32).extractLsb' 8 24 = 0 := by
  constructor
  · rw [BitVec.extractLsb'_setWidth_of_le (by decide), BitVec.extractLsb'_eq_self]
  · ext i hi
    simp

/-- The two registers of a DES round key hold its 48 bits, with zeros above bit 15 of the first (R29, R56). -/
theorem roundKey_halves (k : RoundKey) :
    ((k.extractLsb' 32 16).setWidth 32).extractLsb' 0 16 ++ k.extractLsb' 0 32 = k ∧
    ((k.extractLsb' 32 16).setWidth 32).extractLsb' 16 16 = 0 := by
  constructor
  · rw [BitVec.extractLsb'_setWidth_of_le (by decide), BitVec.extractLsb'_eq_self,
      BitVec.extractLsb'_append_extractLsb'_eq_extractLsb' (by decide), BitVec.extractLsb'_eq_self]
  · ext i hi
    simp

/-- The fields of CTRL (R18). -/
theorem ctrlWord_fields (s : State) : s.ctrlWord.getLsbD 0 = s.doneIe ∧ s.ctrlWord.getLsbD 1 = s.errIe ∧
    s.ctrlWord.extractLsb' 2 30 = 0 := by
  simp only [State.ctrlWord, BitVec.getLsbD_append, BitVec.extractLsb'_append_eq_ite]
  simp

/-- The single bits of STATUS (R19). -/
theorem statusWord_bits (s : State) : s.statusWord.getLsbD 0 = s.busy ∧ s.statusWord.getLsbD 1 = s.done ∧
    s.statusWord.getLsbD 2 = s.err ∧ s.statusWord.getLsbD 3 = s.dkv ∧ s.statusWord.getLsbD 4 = s.akv := by
  simp only [State.statusWord, BitVec.getLsbD_append]
  simp

/-- The wider fields of STATUS, the reserved ones 0 (R19). -/
theorem statusWord_fields (s : State) : s.statusWord.extractLsb' 5 3 = 0 ∧
    s.statusWord.extractLsb' 8 8 = s.errCode.code ∧ s.statusWord.extractLsb' 16 4 = s.anr ∧
    s.statusWord.extractLsb' 20 12 = 0 := by
  simp (disch := decide) only [State.statusWord, BitVec.extractLsb'_append_eq_of_le,
    BitVec.extractLsb'_append_eq_of_add_le]
  simp only [Nat.reduceSub, BitVec.extractLsb'_eq_self, and_self]

/-- Settles O11: the fields of each packed register; the other registers read their own words by definition. -/
theorem registerReadFields : Obligations.RegisterReadFields := by
  intro s
  obtain ⟨hdoneIe, herrIe, hctrl⟩ := ctrlWord_fields s
  obtain ⟨hbusy, hdone, herr, hdkv, hakv⟩ := statusWord_bits s
  obtain ⟨hreserved, hcode, hanr, habove⟩ := statusWord_fields s
  obtain ⟨hgfA, hgfA0⟩ := setWidth_byte_fields s.gfA
  obtain ⟨hgfB, hgfB0⟩ := setWidth_byte_fields s.gfB
  obtain ⟨hgfR, hgfR0⟩ := setWidth_byte_fields s.gfR
  exact ⟨rfl, rfl, rfl, hdoneIe, herrIe, hctrl, hbusy, hdone, herr, hdkv, hakv, hreserved, hcode, hanr, habove,
    hgfA, hgfA0, hgfB, hgfB0, hgfR, hgfR0, fun i => roundKey_halves s.drk[i], fun _ => ⟨rfl, rfl⟩, fun _ => rfl,
    fun _ => ⟨rfl, rfl⟩, fun _ => rfl, fun _ => rfl, rfl, rfl, rfl, rfl, rfl, rfl, rfl, rfl, rfl, rfl, rfl⟩

/-! ### Host writes -/

/-- The step of a well-formed host write presents the value to the register (R51). -/
theorem step_host_write {s : State} {off : BitVec 10} {v : Word} {rest : List Turn}
    (hturn : s.schedule = .host (.write 32 off v) :: rest) (hoff : off.toNat % 4 = 0) :
    step s = .next (State.writeReg { s with schedule := rest } (regAt off) v) := by
  simp [step, hturn, takeTurn, State.hostStep, State.hostWrite, accessOk, Config.regBits, hoff]

/-- A write of STATUS, field by field (R20). -/
theorem writeStatus_eq (s : State) (v : Word) : s.writeStatus v = { s with
    done := if v.getLsbD 1 then false else s.done
    err := if v.getLsbD 2 then false else s.err
    errCode := if v.getLsbD 2 then .none else s.errCode } := by
  unfold State.writeStatus
  cases v.getLsbD 1 <;> cases v.getLsbD 2 <;> rfl

/-- Settles O13: offset 0x008 is STATUS, whatever is in flight. -/
theorem statusWriteClearsFlags : Obligations.StatusWriteClearsFlags := by
  intro s v rest hturn
  rw [step_host_write hturn (by decide)]
  exact congrArg _ (writeStatus_eq _ v)

/-- The low byte of a word, widened, is the word masked to it. -/
theorem setWidth_extract_byte (v : Word) : (v.extractLsb' 0 8).setWidth 32 = v &&& 0x000000FF := by
  apply BitVec.eq_of_toNat_eq
  have hmask := Nat.and_two_pow_sub_one_eq_mod v.toNat 8
  simp only [Nat.reducePow, Nat.reduceSub] at hmask
  simp [hmask]
  omega

/-- CTRL reads the two enables of the value written (R18). -/
theorem ctrlWord_writeCtrl (s : State) (v : Word) : (s.writeCtrl v).ctrlWord = v &&& 0x00000003 := by
  obtain ⟨hbit0, hbit1, hzero⟩ := ctrlWord_fields (s.writeCtrl v)
  apply BitVec.eq_of_getLsbD_eq
  intro i hi
  match i with
  | 0 => simpa using hbit0
  | 1 => simpa using hbit1
  | j + 2 =>
    have hj : (s.writeCtrl v).ctrlWord.getLsbD (2 + j) = false := by
      simpa [show j < 30 by omega] using congrArg (BitVec.getLsbD · j) hzero
    have hmask : ∀ j : Fin 30, (0x00000003 : Word).getLsbD (j.val + 2) = false := by decide
    rw [BitVec.getLsbD_and, hmask ⟨j, by omega⟩, Bool.and_false, Nat.add_comm, hj]

/-- A register that a host writes as a plain value reads the value's defined bits (R18, R22 to R28). -/
theorem readReg_writeReg_same (s : State) (r : Reg) (v : Word) (hr : dataWritable r) :
    (s.writeReg r v).readReg r = definedBits r v := by
  cases r with
  | ctrl => exact ctrlWord_writeCtrl s v
  | gfA | gfB => exact setWidth_extract_byte v
  | din i | key i | pin i | ptab i => simp [State.writeReg, State.readReg, definedBits]
  | _ => exact hr.elim

/-- An entry of a file stays under a write of another: the registers `c i` and `c j` that show them differ. -/
theorem getElem_set_of_reg_ne {α : Type} {n : Nat} {xs : Vector α n} {x : α} {i j : Fin n} {c : Fin n → Reg}
    (hne : c j ≠ c i) : (xs.set i x)[j] = xs[j] :=
  Vector.getElem_set_ne i.isLt j.isLt fun hij => hne (congrArg c (Fin.ext hij.symm))

/-- A write of such a register leaves what every other register reads, STATUS included. -/
theorem readReg_writeReg_of_ne (s : State) (r r' : Reg) (v : Word) (hr : dataWritable r) (hne : r' ≠ r) :
    (s.writeReg r v).readReg r' = s.readReg r' := by
  cases r with
  | ctrl => cases r' with | ctrl => exact absurd rfl hne | _ => rfl
  | gfA => cases r' with | gfA => exact absurd rfl hne | _ => rfl
  | gfB => cases r' with | gfB => exact absurd rfl hne | _ => rfl
  | din i => cases r' with | din j => exact getElem_set_of_reg_ne hne | _ => rfl
  | key i => cases r' with | key j => exact getElem_set_of_reg_ne hne | _ => rfl
  | pin i => cases r' with | pin j => exact getElem_set_of_reg_ne hne | _ => rfl
  | ptab i => cases r' with | ptab j => exact getElem_set_of_reg_ne hne | _ => rfl
  | _ => exact hr.elim

/-- The latch and the model's own fields stay. -/
theorem writeReg_frame (s : State) (r : Reg) (v : Word) (hr : dataWritable r) :
    (s.writeReg r v).inflight = s.inflight ∧ (s.writeReg r v).schedule = s.schedule ∧
    (s.writeReg r v).rdata = s.rdata ∧ (s.writeReg r v).sboxAffine = s.sboxAffine := by
  cases r with
  | ctrl | gfA | gfB | din | key | pin | ptab => exact ⟨rfl, rfl, rfl, rfl⟩
  | _ => exact hr.elim

/-- Settles O12: the step presents the value to the register, which reads it back. -/
theorem writeThenReadAndFrame : Obligations.WriteThenReadAndFrame := by
  intro s off v rest hoff hturn hr
  exact ⟨_, step_host_write hturn hoff, readReg_writeReg_same _ _ v hr,
    fun r hne => readReg_writeReg_of_ne { s with schedule := rest } _ r v hr hne, writeReg_frame _ _ v hr⟩

end Sys2Proof.Machine

namespace Sys2Proof.Machine

/-! ### PERM -/

/-- A legal entry has an index in range: the entry itself with base0, one less with base1 (R100, R103). -/
theorem entryIndex_of_legal {f : Args} {entry : Nat} (h : permEntryLegal f entry) :
    ∃ k0, entryIndex (permBase f) entry = some k0 ∧ k0 < f.b.toNat ∧
      k0 = if f.c.getLsbD 0 then entry else entry - 1 := by
  unfold permEntryLegal at h
  unfold permBase
  split at h
  case isTrue hbase => exact ⟨entry, by rw [if_pos hbase, entryIndex], h, by rw [if_pos hbase]⟩
  case isFalse hbase =>
    exact ⟨entry - 1, by rw [if_neg hbase, entryIndex, if_neg (by omega)], by omega, by rw [if_neg hbase]⟩

/-- A legal entry selects the position `permSource` names (R100, R103). -/
theorem sourcePos_of_legal {f : Args} {entry : Nat} (h : permEntryLegal f entry) :
    sourcePos f.b.toNat (permBase f) (permDir f) entry = some (permSource f entry) := by
  obtain ⟨k0, hindex, hlt, hk0⟩ := entryIndex_of_legal h
  simp only [sourcePos, hindex, if_pos hlt, permDir, permSource, ← hk0]
  cases f.c.getLsbD 1 <;> rfl

/-- With legal entries only, PERM's selection answers the bits at the positions of its entries (R101). -/
theorem permute_of_legal (f : Args) (p : Snapshot) (h : ∀ e, e < f.a.toNat → permEntryLegal f (p.ptabEntry e)) :
    permute (p.permTable f.a.toNat) p.permInput f.b.toNat (permBase f) (permDir f) =
      some ((List.range f.a.toNat).map fun e => p.permInput.getMsbD (permSource f (p.ptabEntry e))) := by
  have hsource : ∀ e ∈ List.range f.a.toNat,
      sourcePos f.b.toNat (permBase f) (permDir f) (p.ptabEntry e) = some (permSource f (p.ptabEntry e)) :=
    fun e he => sourcePos_of_legal (h e (List.mem_range.mp he))
  have hall : ∀ t ∈ p.permTable f.a.toNat, (sourcePos f.b.toNat (permBase f) (permDir f) t).isSome = true := by
    simp only [Snapshot.permTable, List.forall_mem_map]
    intro e he
    simp [hsource e he]
  rw [permute_eq, if_pos hall, Snapshot.permTable, List.map_map]
  refine congrArg some (List.map_congr_left fun e he => ?_)
  simp [hsource e he]

/-- The positions of a PERM result: its bits, then zeros (R104). -/
theorem getMsbD_permResult (ys : List Bool) (i : Nat) (h : ys.length ≤ 64) :
    (permResult ys).getMsbD i = ys.getD i false := by
  have hlength : (ys ++ List.replicate (64 - ys.length) false).length = 64 := by simp; omega
  by_cases hi : i < 64
  · rw [permResult, getMsbD_bitString _ _ _ hlength hi]
    by_cases hys : i < ys.length
    · simp [List.getD_eq_getElem?_getD, List.getElem?_append_left hys]
    · have hpad : i - ys.length < 64 - ys.length := by omega
      simp [List.getD_eq_getElem?_getD, List.getElem?_append_right (Nat.le_of_not_lt hys),
        List.getElem?_eq_none (Nat.le_of_not_lt hys), hpad]
  · rw [List.getD_eq_default _ _ (by omega)]
    exact BitVec.getMsbD_of_ge _ _ (by omega)

/-- POUT0 || POUT1 is the result written to them (R27). -/
theorem pout_setPout (s : State) (y : BitVec 64) : (s.setPout y).pout[0] ++ (s.setPout y).pout[1] = y := by
  rw [State.setPout_pout]
  exact (BitVec.extractLsb'_append_extractLsb'_eq_extractLsb' (by decide)).trans BitVec.extractLsb'_eq_self

/-- Entry 4k + j of PTAB is byte j of PTABk (R28). -/
theorem ptabEntry_eq (p : Snapshot) (k : Fin 16) (j : Fin 4) :
    p.ptabEntry (4 * k.val + j.val) = (wordByte p.ptab[k] j).toNat := by
  have hk : Fin.ofNat 16 ((4 * k.val + j.val) / 4) = k := Fin.ext (by simp [Fin.ofNat]; omega)
  have hj : Fin.ofNat 4 ((4 * k.val + j.val) % 4) = j := Fin.ext (by simp [Fin.ofNat])
  simp only [Snapshot.ptabEntry, hk, hj]

/-- A length that R74 allows passes PERM's own check (R104). -/
theorem permLenBad_eq_false {x : Byte} (hlow : 1 ≤ x.toNat) (hhigh : x.toNat ≤ 64) : permLenBad x = false := by
  have hzero : x.toNat ≠ 0 := by omega
  simp only [permLenBad, beq_eq_false_iff_ne.mpr hzero, Bool.false_or]
  exact decide_eq_false (Nat.not_lt.mpr hhigh)

/-- The completion of PERM with legal fields and entries. -/
theorem exec_perm_of_legal {f : Args} {s : State} {l : InFlight} (hl : s.inflight = some l)
    (hreserved : ¬ reservedViolated (.perm f)) (ha : permLenBad f.a = false) (hb : permLenBad f.b = false)
    (h : ∀ e, e < f.a.toNat → permEntryLegal f (l.snap.ptabEntry e)) :
    exec (.perm f) s = .next (s.finish (.ok (s.setPout (permResult
      ((List.range f.a.toNat).map fun e => l.snap.permInput.getMsbD (permSource f (l.snap.ptabEntry e))))))) := by
  have hrsvd : f.rsvdPerm = false := Bool.eq_false_iff.mpr fun hr => hreserved ((rsvdPerm_iff f).mp hr)
  simp only [exec, execPerm, complete_of_inflight s _ l hl, hrsvd, ha, hb, permute_of_legal f l.snap h]
  rfl

/-- Settles O48: the bits of the result, position by position. -/
theorem permSelectsBits : Obligations.PermSelectsBits := by
  intro f s l hl hreserved hlength hlegal
  obtain ⟨ha, ha', hb, hb'⟩ : 1 ≤ f.a.toNat ∧ f.a.toNat ≤ 64 ∧ 1 ≤ f.b.toNat ∧ f.b.toNat ≤ 64 := by
    simpa [lengthError] using hlength
  refine ⟨_, exec_perm_of_legal hl hreserved (permLenBad_eq_false ha ha') (permLenBad_eq_false hb hb') hlegal,
    ?selected, ?above, ptabEntry_eq l.snap, rfl⟩
  case selected =>
    intro i hi
    rw [finish_ok, pout_setPout, getMsbD_permResult _ _ (by simpa using ha')]
    simp [hi, Snapshot.permInput]
  case above =>
    intro i hi
    rw [finish_ok, pout_setPout, getMsbD_permResult _ _ (by simpa using ha')]
    simp [hi]

end Sys2Proof.Machine

namespace Sys2Proof.Machine

/-! ### The turns of the host

The law `hostStep_cases` says what an access can do. The lemmas below say when it is which, and that the turns still
ahead are out of the host's reach. -/

/-- A step on a turn of the host is its access (R6, R62). -/
theorem step_host {s : State} {a : Access} {rest : List Turn} (hturn : s.schedule = .host a :: rest) :
    step s = .next (State.hostStep { s with schedule := rest } a) := by
  simp [step, hturn, takeTurn]

/-- A step on a turn of the engine is its completion step (R62, R192). -/
theorem step_engine {s : State} {rest : List Turn} (hturn : s.schedule = .engine :: rest) :
    step s = engineStep { s with schedule := rest } := by
  simp [step, hturn, takeTurn]

/-- The accesses that R51 calls well-formed. -/
theorem accessOk_iff (width : Nat) (off : BitVec 10) : accessOk width off = true ↔ width = 32 ∧ off.toNat % 4 = 0 := by
  simp [accessOk, Config.regBits]

/-- A well-formed read puts the register's value on the bus (R51, R59). -/
theorem hostStep_read (s : State) {off : BitVec 10} (hoff : off.toNat % 4 = 0) :
    s.hostStep (.read 32 off) = { s with rdata := s.readReg (regAt off) } :=
  if_pos ((accessOk_iff 32 off).mpr ⟨rfl, hoff⟩)

/-- A read that R51 does not call well-formed is refused (R58). -/
theorem hostStep_read_refused (s : State) {width : Nat} {off : BitVec 10} (h : ¬ (width = 32 ∧ off.toNat % 4 = 0)) :
    s.hostStep (.read width off) = { s with err := true, errCode := .bus, rdata := 0 } :=
  if_neg (mt (accessOk_iff width off).mp h)

/-- So is such a write (R58). -/
theorem hostStep_write_refused (s : State) {width : Nat} {off : BitVec 10} (v : Word)
    (h : ¬ (width = 32 ∧ off.toNat % 4 = 0)) :
    s.hostStep (.write width off v) = { s with err := true, errCode := .bus } :=
  if_neg (mt (accessOk_iff width off).mp h)

/-- A write to a register leaves the turns ahead. -/
theorem writeReg_schedule (s : State) (r : Reg) (v : Word) : (s.writeReg r v).schedule = s.schedule := by
  cases r with
  | cmd =>
    rw [State.writeReg, writeCmd_eq]
    split <;> simp
  | status => exact State.writeStatus_schedule s v
  | _ => rfl

/-- A host access leaves the turns ahead. -/
theorem hostStep_schedule (s : State) (a : Access) : (s.hostStep a).schedule = s.schedule :=
  hostStep_rec (P := fun t => t.schedule = s.schedule) a (fun _ => rfl) (fun _ => rfl) (writeReg_schedule s)

/-- Settles O8: the step is the read, and no register's value depends on the turns ahead. -/
theorem hostReadReturnsTheRegister : Obligations.HostReadReturnsTheRegister := by
  intro s off rest hoff hturn
  rw [step_host hturn, hostStep_read _ hoff]
  cases regAt off <;> rfl

/-- Settles O9: the step is the access, which is refused. -/
theorem malformedAccessIsRefused : Obligations.MalformedAccessIsRefused := by
  intro s width off v rest hmalformed
  have hrefused : ¬ (width = 32 ∧ off.toNat % 4 = 0) := by omega
  constructor <;> intro hturn
  · rw [step_host hturn, hostStep_read_refused _ hrefused]
  · rw [step_host hturn, hostStep_write_refused _ v hrefused]

/-- Settles O14: `writeReg` gives each of these registers back as it was. -/
theorem readOnlyWriteIsIgnored : Obligations.ReadOnlyWriteIsIgnored := by
  intro s off v rest hoff hturn hreadOnly
  rw [step_host_write hturn hoff]
  obtain hr | ⟨i, hr⟩ | hr | ⟨i, hr⟩ | ⟨i, hr⟩ | ⟨i, hr⟩ | ⟨i, hr⟩ := hreadOnly <;> rw [hr] <;> rfl

/-- Settles O15: a reserved offset has no register to write, and reads 0. -/
theorem reservedOffsetIsInert : Obligations.ReservedOffsetIsInert := by
  intro s off v rest hoff hreserved
  constructor <;> intro hturn
  · rw [step_host_write hturn hoff, hreserved]
    rfl
  · rw [step_host hturn, hostStep_read _ hoff, hreserved]
    rfl

/-- In the 1024 bytes from CE_BASE on an address reaches the offset that is its distance from CE_BASE (R50). -/
theorem windowOffset_of_mem {addr : Nat} (hlow : Config.ceBase ≤ addr) (hhigh : addr < Config.ceBase + 1024) :
    windowOffset addr = some (BitVec.ofNat 10 (addr - Config.ceBase)) :=
  if_pos ⟨hlow, hhigh⟩

/-- Any other address reaches no offset. -/
theorem windowOffset_eq_none_iff (addr : Nat) :
    windowOffset addr = none ↔ ¬ (Config.ceBase ≤ addr ∧ addr < Config.ceBase + 1024) :=
  ite_eq_right_iff.trans (forall_congr' fun _ => iff_false_intro (Option.some_ne_none _))

/-- Settles O20: an offset is a distance below 1024. -/
theorem windowStandsAtCeBase : Obligations.WindowStandsAtCeBase := by
  constructor
  · intro off
    have hoff : off.toNat < 1024 := off.isLt
    rw [busAddress, windowOffset_of_mem (by omega) (by omega), Nat.add_sub_cancel_left, BitVec.ofNat_toNat,
      BitVec.setWidth_eq]
  · intro addr
    rw [windowOffset_eq_none_iff]
    omega

end Sys2Proof.Machine

namespace Sys2Proof.Machine

/-! ### The round transforms as commands -/

/-- The completion of a state command whose argument fields are 0: the transform of DIN goes to DOUT (R178 to
R180, R182 to R184). -/
theorem stateCommand_of_fieldsClear {f : Args} {s : State} {l : InFlight} (hl : s.inflight = some l)
    (hrsv : f.rsv = 0) (ha : f.a = 0) (hb : f.b = 0) (hc : f.c = 0) (transform : CipherState → CipherState) :
    stateCommand f s transform = .next { s with
      dout := fromState (transform (toState l.snap.din)), done := true, inflight := none } := by
  have hclear : ¬ f.rsvdAll = true := by simp [rsvdAll_iff, hrsv, ha, hb, hc]
  rw [stateCommand, complete_of_inflight s _ l hl, if_neg hclear]
  rfl

/-- Byte r of register c of a stored matrix is its entry (r, c) (R52, R160). -/
theorem wordByte_fromState (m : CipherState) (r c : Fin 4) : wordByte (fromState m)[c] r = cell m r c := by
  rw [fromState_get, wordByte_column]

/-- Settles O44: ShiftRows and InvShiftRows name the entry that each entry comes from. -/
theorem aesSrIsrRotateRows : Obligations.AesSrIsrRotateRows := by
  refine ⟨fun w => (word_of_bytes w).symm, fun f s l hl hrsv ha hb hc => ⟨?left, ?right⟩⟩
  case left =>
    refine ⟨_, stateCommand_of_fieldsClear hl hrsv ha hb hc shiftRows, fun r c => ?_, rfl⟩
    rw [wordByte_fromState, shiftRows, cell_matrix, cell_toState]
  case right =>
    refine ⟨_, stateCommand_of_fieldsClear hl hrsv ha hb hc invShiftRows, fun r c => ?_, rfl⟩
    rw [wordByte_fromState, invShiftRows, cell_matrix, cell_toState]

end Sys2Proof.Machine

namespace Sys2Proof.Machine

/-! ### A completion does not see the host's accesses

A command reads its snapshot, the key schedules with their flags, and SBOX_AFFINE. Two states that agree on these
complete it alike. -/

/-- Two ends of a command that write the same: one error, or successes that agree on the results and schedules. -/
inductive SameEnd : Except ErrCode State → Except ErrCode State → Prop
  | error (code : ErrCode) : SameEnd (.error code) (.error code)
  | ok {u v : State} (h : ResultsKept u v) : SameEnd (.ok u) (.ok v)

/-- A check that both sides make keeps this. -/
theorem SameEnd.ite {c : Prop} [Decidable c] {x x' y y' : Except ErrCode State} (hx : SameEnd x x')
    (hy : SameEnd y y') : SameEnd (if c then x else y) (if c then x' else y') := by
  split <;> assumption

/-- Two outcomes are completion steps, of `s` and of `t`, that write the same whatever the snapshot is. -/
def SameCompletion (s t : State) (o o' : Host.Outcome State Fault Refusal) : Prop :=
  ∃ body body' : Snapshot → Except ErrCode State,
    (∀ p, SameEnd (body p) (body' p)) ∧ o = complete s body ∧ o' = complete t body'

/-- Two bodies with the same ends. -/
theorem SameCompletion.ofBody {s t : State} {body body' : Snapshot → Except ErrCode State}
    (h : ∀ p, SameEnd (body p) (body' p)) : SameCompletion s t (complete s body) (complete t body') :=
  ⟨body, body', h, rfl, rfl⟩

/-- The same for the commands that check the reserved fields only. -/
theorem SameCompletion.ofRsvdAll {s t : State} (f : Args) {write write' : Snapshot → State}
    (h : ∀ p, ResultsKept (write p) (write' p)) :
    SameCompletion s t (complete s fun p => if f.rsvdAll then .error .rsvd else .ok (write p))
      (complete t fun p => if f.rsvdAll then .error .rsvd else .ok (write' p)) :=
  .ofBody fun p => .ite (.error _) (.ok (h p))

section
variable {s t : State} (h : ResultsKept s t)
include h

/-- What the commands read of the DES schedule. -/
theorem ResultsKept.desSchedule : t.desSchedule = s.desSchedule := congrArg Vector.toList h.drk

/-- What the commands read of the AES schedule. -/
theorem ResultsKept.scheduleWord : t.scheduleWord = s.scheduleWord := by
  funext i
  simp only [State.scheduleWord, h.aw]

/-- The same result in DOUT keeps the agreement. -/
theorem ResultsKept.setDout (q : Vector Word 4) : ResultsKept (s.setDout q) (t.setDout q) := { h with dout := rfl }

/-- The same result in GF_R keeps the agreement. -/
theorem ResultsKept.setGfR (x : Byte) : ResultsKept (s.setGfR x) (t.setGfR x) := { h with gfR := rfl }

/-- The same result in POUT keeps the agreement. -/
theorem ResultsKept.setPout (y : BitVec 64) : ResultsKept (s.setPout y) (t.setPout y) := { h with pout := rfl }

/-- The same DES schedule keeps the agreement. -/
theorem ResultsKept.setDesSchedule (k : Vector RoundKey 16) :
    ResultsKept (s.setDesSchedule k) (t.setDesSchedule k) := { h with drk := rfl, dkv := rfl }

/-- The same AES schedule keeps the agreement. -/
theorem ResultsKept.setAesSchedule (w : Vector Word 60) (nr : BitVec 4) :
    ResultsKept (s.setAesSchedule w nr) (t.setAesSchedule w nr) := { h with aw := rfl, akv := rfl, anr := rfl }

/-- Two states after a reset agree if they have the same S-box. -/
theorem ResultsKept.resetRegisters : ResultsKept s.resetRegisters t.resetRegisters :=
  ⟨rfl, rfl, rfl, rfl, rfl, rfl, rfl, rfl, h.sboxAffine⟩

/-- DES_KS reads the key of the snapshot alone (R121). -/
theorem execDesKs_same (f : Args) : SameCompletion s t (execDesKs f s) (execDesKs f t) :=
  .ofBody fun _ => .ite (.error _) <| .ite (.error _) <| .ok (h.setDesSchedule _)

/-- DES_ENC and DES_DEC read DKV beside the round keys (R122, R123). -/
theorem desCipher_same (f : Args) (keys : List RoundKey) :
    SameCompletion s t (desCipher f s keys) (desCipher f t keys) := by
  unfold desCipher
  rw [h.dkv]
  exact .ofBody fun _ => .ite (.error _) <| .ite (.error _) <| .ite (.error _) <| .ok (h.setDout _)

/-- AES_ENC and AES_DEC read AKV beside the schedule (R176, R177). -/
theorem aesCipher_same (f : Args) (transform : Vector Word 4 → Vector Word 4) :
    SameCompletion s t (aesCipher f s transform) (aesCipher f t transform) := by
  unfold aesCipher
  rw [h.akv]
  exact .ofBody fun _ => .ite (.error _) <| .ite (.error _) <| .ite (.error _) <| .ok (h.setDout _)

/-- The state commands read DIN of the snapshot alone (R178 to R180, R182 to R184). -/
theorem stateCommand_same (f : Args) (transform : CipherState → CipherState) :
    SameCompletion s t (stateCommand f s transform) (stateCommand f t transform) :=
  .ofRsvdAll f fun _ => h.setDout _

/-- The GF commands read GF_A and GF_B of the snapshot alone (R150 to R154). -/
theorem gfCommand_same (f : Args) (result : Snapshot → Byte) :
    SameCompletion s t (gfCommand f s result) (gfCommand f t result) :=
  .ofRsvdAll f fun _ => h.setGfR _

/-- AES_KS reads SBOX_AFFINE beside the key (R175). -/
theorem execAesKs_same (f : Args) : SameCompletion s t (execAesKs f s) (execAesKs f t) := by
  unfold execAesKs
  rw [h.sboxAffine]
  exact .ofBody fun _ => .ite (.error _) <| .ite (.error _) <| .ok (h.setAesSchedule _ _)

/-- AES_ARK reads AKV and ANR beside the round key (R181). -/
theorem execAesArk_same (f : Args) : SameCompletion s t (execAesArk f s) (execAesArk f t) := by
  unfold execAesArk
  rw [h.akv, h.anr, h.scheduleWord]
  exact .ofBody fun _ => .ite (.error _) <| .ite (.error _) <| .ite (.error _) <| .ok (h.setDout _)

/-- PERM reads PIN and PTAB of the snapshot alone (R104). -/
theorem execPerm_same (f : Args) : SameCompletion s t (execPerm f s) (execPerm f t) := by
  unfold execPerm
  refine .ofBody fun p => .ite (.error _) <| .ite (.error _) ?_
  cases permute (p.permTable f.a.toNat) p.permInput f.b.toNat (permBase f) (permDir f) with
  | none => exact .error _
  | some ys => exact .ok (h.setPout _)

/-- Every command writes the same from two such states. -/
theorem exec_same (i : Instr) : SameCompletion s t (exec i s) (exec i t) := by
  cases i with
  | nop f => exact .ofRsvdAll f fun _ => h
  | srst f => exact .ofRsvdAll f fun _ => h.resetRegisters
  | desKs f => exact execDesKs_same h f
  | desEnc f | desDec f =>
    simp only [exec, execDesEnc, execDesDec, h.desSchedule]
    exact desCipher_same h f _
  | desF f | desS f =>
    simp only [exec, execDesF, execDesS]
    exact .ofRsvdAll f fun _ => h.setDout _
  | aesKs f => exact execAesKs_same h f
  | aesEnc f | aesDec f =>
    simp only [exec, execAesEnc, execAesDec, h.sboxAffine, h.scheduleWord, h.anr]
    exact aesCipher_same h f _
  | aesSb f | aesIsb f =>
    simp only [exec, execAesSb, execAesIsb, h.sboxAffine]
    exact stateCommand_same h f _
  | aesSr f | aesMc f | aesIsr f | aesImc f => exact stateCommand_same h f _
  | aesArk f => exact execAesArk_same h f
  | gfAdd f | gfMul f | gfInv f | sbox f | isbox f =>
    simp only [exec, execGfAdd, execGfMul, execGfInv, execSbox, execIsbox, h.sboxAffine]
    exact gfCommand_same h f _
  | perm f => exact execPerm_same h f

/-- The engine's step ends the command in flight alike in two such states (R192). -/
theorem engineStep_same {l : InFlight} (hs : s.inflight = some l) (ht : t.inflight = some l) :
    ∃ x y, SameEnd x y ∧ engineStep s = .next (s.finish x) ∧ engineStep t = .next (t.finish y) := by
  simp only [engineStep, hs, ht]
  cases decode l.cmd with
  | error e => exact ⟨_, _, .error .illegal, rfl, rfl⟩
  | ok i =>
    obtain ⟨body, body', hbody, hexec, hexec'⟩ := exec_same h i
    exact ⟨_, _, hbody l.snap, hexec.trans (complete_of_inflight s _ l hs),
      hexec'.trans (complete_of_inflight t _ l ht)⟩

/-- Two such ends leave agreeing results and schedules. -/
theorem SameEnd.finish_resultsKept {x y : Except ErrCode State} (hxy : SameEnd x y) :
    ResultsKept (s.finish x) (t.finish y) := by
  cases hxy with
  | error code => exact { h with }
  | ok huv => exact { huv with }

end

/-- Every end empties the latch (R192). -/
theorem finish_inflight (s : State) (x : Except ErrCode State) : (s.finish x).inflight = none := by
  cases x <;> rfl

/-- Two such ends leave the same DONE where it was the same: an error keeps it, a success sets it. -/
theorem SameEnd.finish_done {s t : State} {x y : Except ErrCode State} (hxy : SameEnd x y) (hdone : t.done = s.done) :
    (t.finish y).done = (s.finish x).done := by
  cases hxy with
  | error code => exact hdone
  | ok huv => rfl

/-! ### The host's accesses before a completion -/

/-- A state that host accesses reach while the command `l` is in flight: it completes `l` like the state they
started from. -/
structure InFlightKept (l : InFlight) (s t : State) : Prop where
  results : ResultsKept s t
  inflight : t.inflight = some l
  done : s.done = false → t.done = false

/-- A write while a command is in flight sets no DONE: STATUS can clear it, CMD is rejected (R20, R191). -/
theorem writeReg_notDone {s : State} {l : InFlight} (hl : s.inflight = some l) (hdone : s.done = false) (r : Reg)
    (v : Word) : (s.writeReg r v).done = false := by
  cases r with
  | cmd => simp [State.writeReg, writeCmd_eq, hl, hdone]
  | status => simp [State.writeReg, hdone]
  | _ => exact hdone

/-- A host access while a command is in flight. -/
theorem hostStep_inFlightKept {s : State} {l : InFlight} (hl : s.inflight = some l) (a : Access) :
    InFlightKept l s (s.hostStep a) where
  results := hostStep_resultsKept s a
  inflight := hostStep_inflight s a l hl
  done hdone := hostStep_rec (P := fun t => t.done = false) a (fun _ => hdone) (fun _ => hdone)
    (writeReg_notDone hl hdone)

/-- No access at all. -/
theorem InFlightKept.refl {l : InFlight} {s : State} (hl : s.inflight = some l) : InFlightKept l s s where
  results := by constructor <;> rfl
  inflight := hl
  done := id

/-- One access after another. -/
theorem InFlightKept.trans {l : InFlight} {s t u : State} (h : InFlightKept l s t) (h' : InFlightKept l t u) :
    InFlightKept l s u where
  results := by
    obtain ⟨hdout, hgfR, hpout, hdrk, haw, hdkv, hakv, hanr, hsbox⟩ := h.results
    obtain ⟨hdout', hgfR', hpout', hdrk', haw', hdkv', hakv', hanr', hsbox'⟩ := h'.results
    exact ⟨hdout'.trans hdout, hgfR'.trans hgfR, hpout'.trans hpout, hdrk'.trans hdrk, haw'.trans haw,
      hdkv'.trans hdkv, hakv'.trans hakv, hanr'.trans hanr, hsbox'.trans hsbox⟩
  inflight := h'.inflight
  done hdone := h'.done (h.done hdone)

/-- A run begins with its first step. -/
theorem run_succ_of_step {M : Host.Core} {s t : M.State} (hstep : M.step s = .next t) (k : Nat) :
    M.run (k + 1) s = M.run k t := by
  rw [Host.Core.run, hstep]

/-- A run of one step is the step. -/
theorem run_one {M : Host.Core} {s t : M.State} : M.run 1 s = .next t ↔ M.step s = .next t := by
  rw [Host.Core.run]
  cases M.step s <;> simp [Host.Core.run]

/-- The step on a turn of the host, with a command in flight. -/
theorem step_host_inFlightKept {s : State} {l : InFlight} {a : Access} {rest : List Turn} (hl : s.inflight = some l)
    (hturn : s.schedule = .host a :: rest) : ∃ t, step s = .next t ∧ InFlightKept l s t ∧ t.schedule = rest := by
  obtain ⟨hresults, hinflight, hdone⟩ := hostStep_inFlightKept (s := { s with schedule := rest }) hl a
  exact ⟨_, step_host hturn, ⟨{ hresults with }, hinflight, hdone⟩, hostStep_schedule _ a⟩

/-- A run through any accesses of the host comes to the turns after them, with the command still in flight. -/
theorem run_hostTurns {l : InFlight} (accesses : List Access) (turns : List Turn) (k : Nat) {s : State}
    (hl : s.inflight = some l) (hturns : s.schedule = accesses.map .host ++ turns) :
    ∃ t, InFlightKept l s t ∧ t.schedule = turns ∧
      Sys2Proof.core.run (accesses.length + k) s = Sys2Proof.core.run k t := by
  induction accesses generalizing s with
  | nil => exact ⟨s, .refl hl, hturns, by rw [List.length_nil, Nat.zero_add]⟩
  | cons a as ih =>
    obtain ⟨s₁, hstep, hfirst, hturns₁⟩ := step_host_inFlightKept hl hturns
    obtain ⟨t, hkept, ht, hrun⟩ := ih hfirst.inflight hturns₁
    refine ⟨t, hfirst.trans hkept, ht, ?_⟩
    rw [List.length_cons, Nat.add_right_comm]
    exact (run_succ_of_step (M := Sys2Proof.core) hstep _).trans hrun

/-- Settles O27: the accesses leave all that the completion reads, so both turns of the engine end alike. -/
theorem resultsDoNotDependOnLatency : Obligations.ResultsDoNotDependOnLatency := by
  intro s l accesses rest t u hl hrun hstep
  obtain ⟨s₁, hkept, hturn, hrun₁⟩ := run_hostTurns accesses (.engine :: rest) 1
    (s := { s with schedule := accesses.map .host ++ .engine :: rest }) hl rfl
  have hstep₁ : step s₁ = .next t := run_one.mp (hrun₁.symm.trans hrun)
  have hkept₁ : ResultsKept { s with schedule := rest } { s₁ with schedule := rest } := { hkept.results with }
  obtain ⟨x, y, hxy, hx, hy⟩ := engineStep_same hkept₁ hl hkept.inflight
  obtain rfl : _ = u := Host.Outcome.next.inj (hx.symm.trans hstep)
  obtain rfl : _ = t := Host.Outcome.next.inj (hy.symm.trans ((step_engine hturn).symm.trans hstep₁))
  obtain ⟨hdout, hgfR, hpout, hdrk, haw, hdkv, hakv, hanr, -⟩ := hxy.finish_resultsKept hkept₁
  refine ⟨hdout, hgfR, hpout, hdrk, haw, hdkv, hakv, hanr, ?latch, fun hdone => ?done⟩
  case latch => rw [finish_inflight, finish_inflight]
  case done => exact hxy.finish_done ((hkept.done hdone).trans hdone.symm)

end Sys2Proof.Machine

namespace Sys2Proof

/-! ### The command word

`decode_eq_ok_iff` says what decoding is: a word decodes to the one command that has its OP and its fields. Both
directions of the round trip follow, since `assembleWord` and the two field accessors undo each other. -/

/-- The opcode map answers a command of that OP, which carries the fields it is given (R73). -/
theorem op_args_of_commandOf {op : BitVec 8} {command : Args → Instr} (h : commandOf op = some command) (f : Args) :
    (command f).op = op ∧ (command f).args = f := by
  unfold commandOf at h
  split at h <;> cases h <;> exact ⟨rfl, rfl⟩

/-- Every command is in the opcode map, under its OP (R73). -/
theorem commandOf_op (i : Instr) : ∃ command, commandOf i.op = some command ∧ command i.args = i := by
  cases i <;> exact ⟨_, rfl, rfl⟩

/-- A word decodes to the command that has its OP and its fields, and to no other (R70, R71, R73). -/
theorem decode_eq_ok_iff (w : Word) (i : Instr) : decode w = .ok i ↔ i.op = opField w ∧ i.args = argsField w := by
  constructor
  · intro h
    unfold decode at h
    split at h
    next command hcommand =>
      cases h
      exact op_args_of_commandOf hcommand _
    next => cases h
  · rintro ⟨hop, hargs⟩
    obtain ⟨command, hcommand, hi⟩ := commandOf_op i
    simp only [decode, ← hop, ← hargs, hcommand, hi]

/-- The five fields of a word, put together again, are the word: they lie side by side (R71). -/
theorem assembleWord_fields (w : Word) : assembleWord (opField w) (argsField w) = w := by
  simp (disch := decide) only [assembleWord, opField, argsField, BitVec.extractLsb'_append_extractLsb'_eq_extractLsb']
  exact BitVec.extractLsb'_eq_self

/-- Settles O1: the assembled word has the command's OP and fields, which is what decoding to it means. -/
theorem decodeOfEncode : Obligations.DecodeOfEncode := by
  intro i
  obtain ⟨hop, hargs⟩ := Laws.fields_of_assembleWord i.op i.args
  exact (decode_eq_ok_iff _ i).mpr ⟨hop.symm, hargs.symm⟩

/-- Settles O2: the command has the word's OP and fields, which assemble to the word. -/
theorem encodeOfDecode : Obligations.EncodeOfDecode := by
  intro w i h
  obtain ⟨hop, hargs⟩ := (decode_eq_ok_iff w i).mp h
  rw [encode, hop, hargs, assembleWord_fields]

/-- The OP values that R73 assigns. -/
def assignedOps : List (BitVec 8) :=
  [0x00, 0x01, 0x10, 0x11, 0x12, 0x13, 0x14, 0x20, 0x21, 0x22, 0x23, 0x24, 0x25, 0x26, 0x27, 0x28, 0x29, 0x30, 0x31,
    0x32, 0x33, 0x34, 0x40]

/-- The OP of a command is assigned (R73). -/
theorem op_mem_assignedOps (i : Instr) : i.op ∈ assignedOps := by
  cases i <;> simp [Instr.op, assignedOps]

/-- The opcode map answers for every assigned OP (R73). -/
theorem isSome_commandOf : ∀ op ∈ assignedOps, (commandOf op).isSome = true := by
  decide

/-- A word with an assigned OP decodes, and its fields are carried along (R70). -/
theorem decode_of_mem_assignedOps {w : Word} (h : opField w ∈ assignedOps) :
    ∃ i, decode w = .ok i ∧ i.args = argsField w := by
  obtain ⟨command, hcommand⟩ := Option.isSome_iff_exists.mp (isSome_commandOf _ h)
  exact ⟨_, by simp only [decode, hcommand], (op_args_of_commandOf hcommand _).2⟩

/-- A word with any other OP is rejected by that OP (R76). -/
theorem decode_of_not_mem_assignedOps {w : Word} (h : opField w ∉ assignedOps) :
    decode w = .error (.unassignedOp (opField w)) := by
  cases hcommand : commandOf (opField w) with
  | none => simp only [decode, hcommand]
  | some command =>
    have hop : (command (argsField w)).op = opField w := (op_args_of_commandOf hcommand _).1
    exact absurd (hop ▸ op_mem_assignedOps _) h

/-- Settles O3: the command that a word decodes to has the word's OP, and every command's OP is assigned. -/
theorem decodeSelectsByAssignedOp : Obligations.DecodeSelectsByAssignedOp := by
  intro w
  refine ⟨⟨?_, decode_of_mem_assignedOps⟩, decode_of_not_mem_assignedOps⟩
  rintro ⟨i, hi, -⟩
  have hop : i.op = opField w := ((decode_eq_ok_iff w i).mp hi).1
  exact hop ▸ op_mem_assignedOps i

/-- Settles O4: the words of R73 and R74, one by one. -/
theorem specWordsDecode : Obligations.SpecWordsDecode := by
  unfold Obligations.SpecWordsDecode
  decide

end Sys2Proof

namespace Sys2Proof.Machine

/-! ### The command in flight ends with an error -/

/-- A step with no turn left is the engine's (R236). -/
theorem step_of_schedule_nil {s : State} (hnil : s.schedule = []) : step s = engineStep s := by
  simp only [step, hnil]

/-- The engine's step for an unassigned OP: ILLEGAL, and nothing else (R76, R192). -/
theorem engineStep_of_decode_error {s : State} {l : InFlight} {e : DecodeError} (hl : s.inflight = some l)
    (he : decode l.cmd = .error e) : engineStep s = .next (failedWith s .illegal) := by
  simp only [engineStep, hl, he]
  rfl

/-- Settles O6: both steps are the engine's, and it finds no command for the word. -/
theorem unassignedOpEndsWithIllegal : Obligations.UnassignedOpEndsWithIllegal := by
  intro s l e hl he
  constructor
  · intro rest hturn
    rw [step_engine hturn]
    exact engineStep_of_decode_error hl he
  · intro hnil
    rw [step_of_schedule_nil hnil]
    exact engineStep_of_decode_error hl he

/-- A completion whose pseudocode raises an error leaves what R201 says. -/
theorem complete_of_error {s : State} {l : InFlight} {body : Snapshot → Except ErrCode State} {code : ErrCode}
    (hl : s.inflight = some l) (hbody : body l.snap = .error code) : complete s body = .next (failedWith s code) := by
  rw [complete_of_inflight s body l hl, hbody]
  rfl

/-- The check of AES_KS on the key length is R74's (R175). -/
theorem aesKeyBytes_not_contains_iff (a : Byte) :
    (!Config.aesKeyBytes.contains a) = true ↔ ¬ (a = 16 ∨ a = 24 ∨ a = 32) := by
  simp [Config.aesKeyBytes]

/-- The check of PERM on a length is R74's (R104). -/
theorem permLenBad_iff (x : Byte) : permLenBad x = true ↔ ¬ (1 ≤ x.toNat ∧ x.toNat ≤ 64) := by
  rw [permLenBad, Bool.or_eq_true, beq_iff_eq, decide_eq_true_eq, Config.permMax]
  omega

/-- PERM checks both of its lengths at once (R104). -/
theorem permLenBad_or_iff (f : Args) : (permLenBad f.a || permLenBad f.b) = true ↔
    ¬ (1 ≤ f.a.toNat ∧ f.a.toNat ≤ 64 ∧ 1 ≤ f.b.toNat ∧ f.b.toNat ≤ 64) := by
  rw [Bool.or_eq_true, permLenBad_iff, permLenBad_iff]
  omega

/-- A check `bad` of a length, after a check `rsvd` that passes, raises the code that R74 names for it. -/
theorem ite_lengthCheck {rsvd bad : Bool} {legal : Prop} [Decidable legal] {errCode code : ErrCode}
    {rest : Except ErrCode State} (hrsvd : ¬ rsvd = true) (hbad : bad = true ↔ ¬ legal)
    (hlength : (if legal then none else some errCode) = some code) :
    (if rsvd then .error .rsvd else if bad then .error errCode else rest) = .error code := by
  obtain ⟨hillegal, hcode⟩ := Option.ite_none_left_eq_some.mp hlength
  cases hcode
  rw [if_neg hrsvd, if_pos (hbad.mpr hillegal)]

/-- Every command checks its own word first, the reserved fields and then the length (R74, R202). -/
theorem exec_fieldChecks (i : Instr) (s : State) : ∃ body : Snapshot → Except ErrCode State,
    exec i s = complete s body ∧
    (reservedViolated i → ∀ p, body p = .error .rsvd) ∧
    (¬ reservedViolated i → ∀ code, lengthError i = some code → ∀ p, body p = .error code) := by
  cases i with
  | desKs f | desEnc f | desDec f | aesEnc f | aesDec f =>
    simp only [exec, execDesKs, execDesEnc, execDesDec, desCipher, execAesEnc, execAesDec, aesCipher]
    exact ⟨_, rfl, fun h _ => if_pos ((rsvdButA_iff f).mpr h), fun h _ hlength _ =>
      ite_lengthCheck (mt (rsvdButA_iff f).mp h) bne_iff_ne hlength⟩
  | aesKs f =>
    simp only [exec, execAesKs]
    exact ⟨_, rfl, fun h _ => if_pos ((rsvdButA_iff f).mpr h), fun h _ hlength _ =>
      ite_lengthCheck (mt (rsvdButA_iff f).mp h) (aesKeyBytes_not_contains_iff f.a) hlength⟩
  | perm f =>
    simp only [exec, execPerm]
    exact ⟨_, rfl, fun h _ => if_pos ((rsvdPerm_iff f).mpr h), fun h _ hlength _ =>
      ite_lengthCheck (mt (rsvdPerm_iff f).mp h) (permLenBad_or_iff f) hlength⟩
  | aesArk f =>
    simp only [exec, execAesArk]
    exact ⟨_, rfl, fun h _ => if_pos ((rsvdButB_iff f).mpr h), fun _ _ hlength => nomatch hlength⟩
  | nop f | srst f | desF f | desS f | aesSb f | aesSr f | aesMc f | aesIsb f | aesIsr f | aesImc f | gfAdd f
  | gfMul f | gfInv f | sbox f | isbox f =>
    simp only [exec, execNop, execSrst, execDesF, execDesS, execAesSb, execAesSr, execAesMc, execAesIsb, execAesIsr,
      execAesImc, stateCommand, execGfAdd, execGfMul, execGfInv, execSbox, execIsbox, gfCommand]
    exact ⟨_, rfl, fun h _ => if_pos ((rsvdAll_iff f).mpr h), fun _ _ hlength => nomatch hlength⟩

/-- Settles O31: the reserved fields are the first check. -/
theorem reservedFieldsEndWithRsvd : Obligations.ReservedFieldsEndWithRsvd := by
  intro i s l hl hreserved
  obtain ⟨body, hexec, hrsvd, -⟩ := exec_fieldChecks i s
  rw [hexec]
  exact complete_of_error hl (hrsvd hreserved l.snap)

/-- Settles O32: the length is the next check. -/
theorem lengthErrorsComeSecond : Obligations.LengthErrorsComeSecond := by
  intro i s l code hl hreserved hlength
  obtain ⟨body, hexec, -, hlen⟩ := exec_fieldChecks i s
  rw [hexec]
  exact complete_of_error hl (hlen hreserved code hlength l.snap)

/-! ### The registers that a command writes -/

/-- `t` differs from `s` at most where the command `i` may write: STATUS, the latch, and the registers and flags
that R75 and R31 list for it. -/
structure WritesOnly (i : Instr) (s t : State) : Prop where
  schedule : t.schedule = s.schedule
  rdata : t.rdata = s.rdata
  sboxAffine : t.sboxAffine = s.sboxAffine
  readReg : ∀ r, r ≠ .status → ¬ writtenOnSuccess i r → t.readReg r = s.readReg r
  dkv : (∀ f, i ≠ .desKs f ∧ i ≠ .srst f) → t.dkv = s.dkv
  aesFlags : (∀ f, i ≠ .aesKs f ∧ i ≠ .srst f) → t.akv = s.akv ∧ t.anr = s.anr

/-- Writing nothing is within the bounds of every command. -/
theorem WritesOnly.refl (i : Instr) (s : State) : WritesOnly i s s :=
  ⟨rfl, rfl, rfl, fun _ _ _ => rfl, fun _ => rfl, fun _ => ⟨rfl, rfl⟩⟩

/-- The end of a command adds only the flags of STATUS and the empty latch, which no other register shows (R192). -/
theorem WritesOnly.finish {i : Instr} {s : State} {x : Except ErrCode State}
    (h : ∀ u, x = .ok u → WritesOnly i s u) : WritesOnly i s (s.finish x) := by
  cases x with
  | error code =>
    exact { WritesOnly.refl i s with
      readReg := fun r hr _ => readReg_congr s _ r hr (by simp only [finish_error, and_self]) }
  | ok u =>
    obtain ⟨hschedule, hrdata, hsbox, hreg, hdkv, haes⟩ := h u rfl
    exact ⟨hschedule, hrdata, hsbox,
      fun r hr hw => (readReg_congr u _ r hr (by simp only [finish_ok, and_self])).trans (hreg r hr hw), hdkv, haes⟩

/-- SRST may write every register and flag (R194). -/
theorem resetRegisters_writesOnly (f : Args) (s : State) : WritesOnly (.srst f) s s.resetRegisters where
  schedule := rfl
  rdata := rfl
  sboxAffine := rfl
  readReg _ _ hr := absurd trivial hr
  dkv hi := absurd rfl (hi f).2
  aesFlags hi := absurd rfl (hi f).2

/-- DES_KS writes DRK and DKV (R121). -/
theorem setDesSchedule_writesOnly (f : Args) (s : State) (k : Vector RoundKey 16) :
    WritesOnly (.desKs f) s (s.setDesSchedule k) where
  schedule := rfl
  rdata := rfl
  sboxAffine := rfl
  readReg r hstatus hr := by
    cases r with
    | status => exact absurd rfl hstatus
    | drkHi k => exact absurd ⟨k, .inl rfl⟩ hr
    | drkLo k => exact absurd ⟨k, .inr rfl⟩ hr
    | _ => rfl
  dkv hi := absurd rfl (hi f).1
  aesFlags _ := ⟨rfl, rfl⟩

/-- AES_KS writes AW, AKV and ANR (R175). -/
theorem setAesSchedule_writesOnly (f : Args) (s : State) (w : Vector Word 60) (nr : BitVec 4) :
    WritesOnly (.aesKs f) s (s.setAesSchedule w nr) where
  schedule := rfl
  rdata := rfl
  sboxAffine := rfl
  readReg r hstatus hr := by
    cases r with
    | status => exact absurd rfl hstatus
    | aw k => exact absurd ⟨k, rfl⟩ hr
    | _ => rfl
  dkv _ := rfl
  aesFlags hi := absurd rfl (hi f).1

/-- A result in DOUT, of a command that may write there (R23). -/
theorem setDout_writesOnly {i : Instr} (hi : ∀ k, writtenOnSuccess i (.dout k)) (s : State) (q : Vector Word 4) :
    WritesOnly i s (s.setDout q) :=
  { WritesOnly.refl i s with
    readReg := fun r _ hr => by cases r with | dout k => exact absurd (hi k) hr | _ => rfl }

/-- A result in GF_R, of a command that may write there (R25). -/
theorem setGfR_writesOnly {i : Instr} (hi : writtenOnSuccess i .gfR) (s : State) (x : Byte) :
    WritesOnly i s (s.setGfR x) :=
  { WritesOnly.refl i s with
    readReg := fun r _ hr => by cases r with | gfR => exact absurd hi hr | _ => rfl }

/-- A result in POUT, of a command that may write there (R27). -/
theorem setPout_writesOnly {i : Instr} (hi : ∀ k, writtenOnSuccess i (.pout k)) (s : State) (y : BitVec 64) :
    WritesOnly i s (s.setPout y) :=
  { WritesOnly.refl i s with
    readReg := fun r _ hr => by cases r with | pout k => exact absurd (hi k) hr | _ => rfl }

/-- Every answer of `exec` empties the latch and keeps within the bounds of its command. -/
theorem exec_writesOnly {i : Instr} {s t : State} (h : exec i s = .next t) : t.inflight = none ∧ WritesOnly i s t := by
  obtain ⟨body, hexec, -, hok⟩ := exec_eq_complete i s
  obtain ⟨l, -, rfl⟩ := (complete_eq_next s body t).mp (hexec ▸ h)
  refine ⟨finish_inflight s _, .finish fun u hu => ?_⟩
  obtain ⟨f, rfl, rfl⟩ | ⟨f, rfl, rfl⟩ | ⟨f, rfl, rfl⟩ | ⟨f, nk, rfl, -, rfl⟩ | ⟨-, hi, q, rfl⟩ |
    ⟨-, hi, x, rfl⟩ | ⟨-, hi, y, rfl⟩ := hok _ _ hu
  · exact .refl _ _
  · exact resetRegisters_writesOnly f s
  · exact setDesSchedule_writesOnly f s _
  · exact setAesSchedule_writesOnly f s _ _
  · exact setDout_writesOnly hi s q
  · exact setGfR_writesOnly hi s x
  · exact setPout_writesOnly hi s y

/-- Settles O29: the bounds of the command, clause by clause. -/
theorem commandWritesOnlyItsRegisters : Obligations.CommandWritesOnlyItsRegisters := by
  intro i s t h
  obtain ⟨hlatch, hschedule, hrdata, hsbox, hreg, hdkv, haes⟩ := exec_writesOnly h
  exact ⟨hlatch, hschedule, hrdata, hsbox, hreg, hdkv, haes⟩

end Sys2Proof.Machine

namespace Sys2Proof.Machine

/-! ### When `permute` fails, and what undoes it -/

/-- `permute` fails exactly when some entry selects no position (R103). -/
theorem permute_eq_none_iff (table : List Nat) {w : Nat} (x : BitVec w) (n : Nat) (base : Base) (dir : Dir) :
    permute table x n base dir = none ↔ ∃ t ∈ table, sourcePos n base dir t = none := by
  rw [permute_eq, ite_eq_right_iff]
  simp

/-- An entry is out of range exactly when its index is: the direction only mirrors that index (R103). -/
theorem sourcePos_eq_none_iff (n : Nat) (base : Base) (dir : Dir) (t : Nat) :
    sourcePos n base dir t = none ↔ ∀ k0, entryIndex base t = some k0 → ¬ k0 < n := by
  unfold sourcePos
  cases entryIndex base t with
  | none => simp
  | some k0 => simp

/-- A base1 entry is out of range exactly when it is not 1 .. n (R103). -/
theorem sourcePos_base1_eq_none_iff (n : Nat) (dir : Dir) (t : Nat) :
    sourcePos n .base1 dir t = none ↔ ¬ (1 ≤ t ∧ t ≤ n) := by
  rw [sourcePos_eq_none_iff, entryIndex]
  by_cases h0 : t = 0
  · simp [h0]
  · simp only [if_neg h0, Option.some.injEq, forall_eq']
    omega

/-- A base0 entry is out of range exactly when it is not 0 .. n-1 (R103). -/
theorem sourcePos_base0_eq_none_iff (n : Nat) (dir : Dir) (t : Nat) :
    sourcePos n .base0 dir t = none ↔ ¬ t < n := by
  simp only [sourcePos_eq_none_iff, entryIndex, Option.some.injEq, forall_eq']

/-- Settles O49: by the range of each base. -/
theorem permuteFailsOnBadEntry : Obligations.PermuteFailsOnBadEntry := by
  intro table w x n dir
  simp only [permute_eq_none_iff, sourcePos_base1_eq_none_iff, sourcePos_base0_eq_none_iff, and_self]

/-- An entry that is not legal for the command word selects no position (R103, R104). -/
theorem sourcePos_of_not_legal {f : Args} {entry : Nat} (h : ¬ permEntryLegal f entry) :
    sourcePos f.b.toNat (permBase f) (permDir f) entry = none := by
  unfold permEntryLegal at h
  unfold permBase
  split at h
  case isTrue hbase => rwa [if_pos hbase, sourcePos_base0_eq_none_iff]
  case isFalse hbase => rwa [if_neg hbase, sourcePos_base1_eq_none_iff]

/-- With an entry that is not legal among its m, PERM's selection fails (R103, R104). -/
theorem permute_of_not_legal {f : Args} {p : Snapshot} {e : Nat} (he : e < f.a.toNat)
    (hillegal : ¬ permEntryLegal f (p.ptabEntry e)) :
    permute (p.permTable f.a.toNat) p.permInput f.b.toNat (permBase f) (permDir f) = none :=
  (permute_eq_none_iff ..).mpr
    ⟨_, List.mem_map_of_mem (List.mem_range.mpr he), sourcePos_of_not_legal hillegal⟩

/-- Settles O35: the fields pass their checks, and then the selection fails. -/
theorem permEntryOutOfRangeIsRefused : Obligations.PermEntryOutOfRangeIsRefused := by
  intro f s l hl hreserved hlength ⟨e, he, hillegal⟩
  have hlengths : 1 ≤ f.a.toNat ∧ f.a.toNat ≤ 64 ∧ 1 ≤ f.b.toNat ∧ f.b.toNat ≤ 64 := by
    simpa [lengthError] using hlength
  rw [exec, execPerm]
  refine complete_of_error hl ?_
  rw [if_neg (mt (rsvdPerm_iff f).mp hreserved),
    if_neg fun hbad => (permLenBad_or_iff f).mp hbad hlengths, permute_of_not_legal he hillegal]

/-- A permutation table holds every one of 1 .. n (R106). -/
theorem mem_of_isPermutationTable {n : Nat} {table : List Nat} (h : isPermutationTable n table) {t : Nat}
    (ht : 1 ≤ t ∧ t ≤ n) : t ∈ table := by
  obtain ⟨hlength, hnodup, hrange⟩ := h
  have hmem (u : Nat) : u ∈ List.range' 1 n ↔ 1 ≤ u ∧ u ≤ n := by
    rw [List.mem_range'_1]
    omega
  have hsub : table.Subperm (List.range' 1 n) :=
    List.subperm_of_subset hnodup fun u hu => (hmem u).mpr (hrange u hu)
  have hperm : table.Perm (List.range' 1 n) := hsub.perm_of_length_le (by simp [hlength])
  exact hperm.mem_iff.mpr ((hmem t).mpr ht)

/-- `inverse` holds, at the position each entry of `table` names, the place of that entry (R106). -/
def IsInverseTable (n : Nat) (table inverse : List Nat) : Prop :=
  ∀ i, i < n → inverse.getD (table.getD i 0 - 1) 0 = i + 1

section Inverse

variable {n : Nat} {table inverse : List Nat}

/-- Every position is named by an entry of the permutation table, whose place the inverse table holds there. -/
theorem IsInverseTable.exists_place (htable : isPermutationTable n table)
    (hinverse : IsInverseTable n table inverse) {j : Nat} (hj : j < n) :
    ∃ i, i < n ∧ table.getD i 0 = j + 1 ∧ inverse.getD j 0 = i + 1 := by
  obtain ⟨i, hi, hentry⟩ := List.getElem_of_mem (mem_of_isPermutationTable htable (t := j + 1) (by omega))
  have htablei : table.getD i 0 = j + 1 := by rw [List.getD_eq_getElem _ _ hi, hentry]
  have hin : i < n := htable.1 ▸ hi
  have hplace := hinverse i hin
  rw [htablei, Nat.add_sub_cancel] at hplace
  exact ⟨i, hin, htablei, hplace⟩

/-- The inverse of a permutation table has that table as its inverse. -/
theorem IsInverseTable.symm (htable : isPermutationTable n table)
    (hinverse : IsInverseTable n table inverse) : IsInverseTable n inverse table := by
  intro j hj
  obtain ⟨i, -, htablei, hinversej⟩ := hinverse.exists_place htable hj
  rw [hinversej, Nat.add_sub_cancel, htablei]

/-- The entries of the inverse table are in range. -/
theorem IsInverseTable.inRange (htable : isPermutationTable n table) (hlength : inverse.length = n)
    (hinverse : IsInverseTable n table inverse) : ∀ t ∈ inverse, 1 ≤ t ∧ t ≤ n := by
  intro t ht
  obtain ⟨j, hj, rfl⟩ := List.getElem_of_mem ht
  obtain ⟨i, hi, -, hinversej⟩ := hinverse.exists_place htable (hlength ▸ hj)
  rw [← List.getD_eq_getElem _ 0 hj, hinversej]
  omega

/-- Permuting by a table's inverse and then by the table gives every bit back its position. -/
theorem perm_perm_of_isInverseTable (htable : table.length = n) (hrange : ∀ t ∈ table, 1 ≤ t ∧ t ≤ n)
    (hinverse : inverse.length = n) (hrange' : ∀ t ∈ inverse, 1 ≤ t ∧ t ≤ n)
    (h : IsInverseTable n table inverse) (x : BitVec n) : perm n table (perm n inverse x) = x := by
  apply BitVec.eq_of_getMsbD_eq
  intro i hi
  have hentry : table.getD i 0 - 1 < n := by
    have hlt : i < table.length := htable.symm ▸ hi
    obtain ⟨hlow, hhigh⟩ := hrange _ (List.getElem_mem hlt)
    rw [List.getD_eq_getElem _ _ hlt]
    omega
  calc (perm n table (perm n inverse x)).getMsbD i
      = (perm n inverse x).getMsbD (table.getD i 0 - 1) := getMsbD_perm _ _ htable hrange _ hi
    _ = x.getMsbD (inverse.getD (table.getD i 0 - 1) 0 - 1) := getMsbD_perm _ _ hinverse hrange' _ hentry
    _ = x.getMsbD i := by rw [h i hi, Nat.add_sub_cancel]

end Inverse

/-- The pair of R110 and R111 (R106). -/
theorem isInverseTable_ip : IsInverseTable 64 ipTable ipInvTable := by
  unfold IsInverseTable
  decide

/-- Settles O50: each table of the pair is the other's inverse, and IP's entries are looked up one by one. -/
theorem inversePermutationsCancel : Obligations.InversePermutationsCancel := by
  obtain ⟨⟨hip, hipRange⟩, ⟨hipInv, -⟩, -⟩ := desTables_inRange
  refine ⟨fun n table inverse htable hlength hinverse x => ?_, ⟨hip, by decide, hipRange⟩, hipInv, isInverseTable_ip⟩
  have h : IsInverseTable n table inverse := hinverse
  have hrange' := h.inRange htable hlength
  have hsymm := h.symm htable
  obtain ⟨htableLength, -, hrange⟩ := htable
  exact ⟨perm_perm_of_isInverseTable htableLength hrange hlength hrange' h x,
    perm_perm_of_isInverseTable hlength hrange' htableLength hrange hsymm x⟩

end Sys2Proof.Machine

namespace Sys2Proof.Machine

/-! ### The DES key schedule, bit by bit -/

/-- Two rotations are one by the sum of their amounts. -/
theorem rotateLeft_rotateLeft {w : Nat} (x : BitVec w) (a b : Nat) :
    (x.rotateLeft a).rotateLeft b = x.rotateLeft (a + b) := by
  apply BitVec.eq_of_getMsbD_eq
  intro i hi
  have hpos : (b + i) % w < w := Nat.mod_lt _ (by omega)
  simp only [BitVec.getMsbD_rotateLeft, hi, hpos, decide_true, Bool.true_and, Nat.add_mod_mod, Nat.add_assoc]

/-- Round key i is PC2 of the two halves, each rotated by the sum of the first i + 1 amounts (R118). -/
theorem getD_roundKeysFrom (ns : List Nat) (c d : BitVec 28) (i : Nat) (hi : i < ns.length) :
    (roundKeysFrom ns c d).getD i 0 =
      perm 48 pc2Table (c.rotateLeft (ns.take (i + 1)).sum ++ d.rotateLeft (ns.take (i + 1)).sum) := by
  induction ns generalizing c d i with
  | nil => exact absurd hi (Nat.not_lt_zero i)
  | cons n ns ih =>
    cases i with
    | zero => simp [roundKeysFrom]
    | succ i =>
      rw [List.length_cons, Nat.add_lt_add_iff_right] at hi
      rw [roundKeysFrom, List.getD_cons_succ, ih _ _ i hi, rotateLeft_rotateLeft, rotateLeft_rotateLeft,
        List.take_succ_cons, List.sum_cons]

/-- The position of C || D that stands at `place` after both halves were rotated left by `rotation` (R118). -/
def rotatedOrigin (rotation place : Nat) : Nat :=
  if place < 28 then (place + rotation) % 28 else 28 + (place - 28 + rotation) % 28

theorem rotatedOrigin_lt (rotation place : Nat) : rotatedOrigin rotation place < 56 := by
  unfold rotatedOrigin
  split <;> omega

/-- The bits of C || D after both halves were rotated (R118). -/
theorem getMsbD_rotateHalves (cd : BitVec 56) (rotation : Nat) {place : Nat} (h : place < 56) :
    ((cd.extractLsb' 28 28).rotateLeft rotation ++ (cd.extractLsb' 0 28).rotateLeft rotation).getMsbD place =
      cd.getMsbD (rotatedOrigin rotation place) := by
  rw [BitVec.getMsbD_append, rotatedOrigin]
  by_cases hc : place < 28
  · have hpos : (place + rotation) % 28 < 28 := Nat.mod_lt _ (by decide)
    have hsource : 56 - (28 + 28 - (place + rotation) % 28) = (place + rotation) % 28 := by omega
    rw [if_pos hc, if_neg (Nat.not_le.mpr hc), BitVec.getMsbD_rotateLeft, BitVec.getMsbD_extractLsb',
      Nat.add_comm rotation, hsource]
    simp [hc, hpos]
  · have hplace : place - 28 < 28 := by omega
    have hpos : (place - 28 + rotation) % 28 < 28 := Nat.mod_lt _ (by decide)
    have hsource : 56 - (0 + 28 - (place - 28 + rotation) % 28) = 28 + (place - 28 + rotation) % 28 := by omega
    have hfits : 0 + 28 - (place - 28 + rotation) % 28 ≤ 56 := by omega
    rw [if_neg hc, if_pos (Nat.not_lt.mp hc), BitVec.getMsbD_rotateLeft, BitVec.getMsbD_extractLsb',
      Nat.add_comm rotation, hsource]
    simp only [hplace, hpos, hfits, decide_true, Bool.true_and]

/-- An entry of a table in range, less one, is a position of the input (R105). -/
theorem entry_sub_one_lt {n : Nat} {table : List Nat} (hrange : ∀ t ∈ table, 1 ≤ t ∧ t ≤ n) {i : Nat}
    (hi : i < table.length) : table.getD i 0 - 1 < n := by
  obtain ⟨hlow, hhigh⟩ := hrange _ (List.getElem_mem hi)
  rw [List.getD_eq_getElem _ _ hi]
  omega

/-- Bit j of round key i is the key bit that PC1 puts where PC2 finds it after the rotations (R118). -/
theorem getMsbD_desKeySchedule (k : Block64) {i j : Nat} (hi : i < 16) (hj : j < 48) :
    ((desKeySchedule k).getD i 0).getMsbD j =
      k.getMsbD (pc1Table.getD (rotatedOrigin (shifts.take (i + 1)).sum (pc2Table.getD j 0 - 1)) 0 - 1) := by
  obtain ⟨-, -, -, -, ⟨hpc1, hpc1Range⟩, ⟨hpc2, hpc2Range⟩⟩ := desTables_inRange
  have hplace : pc2Table.getD j 0 - 1 < 56 := entry_sub_one_lt hpc2Range (hpc2.symm ▸ hj)
  rw [desKeySchedule, getD_roundKeysFrom shifts _ _ i hi, getMsbD_perm _ _ hpc2 hpc2Range j hj,
    getMsbD_rotateHalves _ _ hplace, getMsbD_perm _ _ hpc1 hpc1Range _ (rotatedOrigin_lt _ _)]

/-- The rotation of each round, summed up (R116). -/
theorem sum_take_shifts (i : Fin 16) :
    [1, 2, 4, 6, 8, 10, 12, 14, 15, 17, 19, 21, 23, 25, 27, 28].getD i.val 0 = (shifts.take (i.val + 1)).sum := by
  revert i
  decide

/-- The completion of DES_KS with legal fields (R121). -/
theorem exec_desKs_of_legal {f : Args} {s : State} {l : InFlight} (hl : s.inflight = some l)
    (hreserved : ¬ reservedViolated (.desKs f)) (ha : f.a = 8) :
    exec (.desKs f) s = .next { s with
      drk := tabulate 16 fun i => (desKeySchedule l.snap.desKey).getD i 0
      dkv := true, done := true, inflight := none } := by
  have hlength : ¬ (f.a != Config.desBytes) = true := by simp [ha, Config.desBytes]
  rw [exec, execDesKs, complete_of_inflight s _ l hl, if_neg (mt (rsvdButA_iff f).mp hreserved), if_neg hlength]
  rfl

/-- Settles O38: the file lists the schedule, whose bits are `getMsbD_desKeySchedule`. -/
theorem desKsStoresTheSchedule : Obligations.DesKsStoresTheSchedule := by
  constructor
  · intro f s l hl hreserved ha
    exact ⟨_, exec_desKs_of_legal hl hreserved ha, toList_tabulate_getD 16 _ 0 (desKeySchedule_length _), rfl⟩
  · refine fun k => ⟨desKeySchedule_length k, fun i j => ?_⟩
    simp only [sum_take_shifts]
    exact getMsbD_desKeySchedule k i.isLt j.isLt

/-! ### The parity bits -/

/-- The schedule does not see key bits that PC1 does not take (R114, R118). -/
theorem desKeySchedule_xor (k mask : Block64) (h : ∀ t ∈ pc1Table, mask.getMsbD (t - 1) = false) :
    desKeySchedule (k ^^^ mask) = desKeySchedule k := by
  obtain ⟨-, -, -, -, ⟨hpc1, hpc1Range⟩, -⟩ := desTables_inRange
  have hsame : perm 56 pc1Table (k ^^^ mask) = perm 56 pc1Table k := by
    apply BitVec.eq_of_getMsbD_eq
    intro i hi
    have hlt : i < pc1Table.length := hpc1.symm ▸ hi
    have hclear : mask.getMsbD (pc1Table.getD i 0 - 1) = false := by
      rw [List.getD_eq_getElem _ _ hlt]
      exact h _ (List.getElem_mem hlt)
    rw [getMsbD_perm _ _ hpc1 hpc1Range i hi, getMsbD_perm _ _ hpc1 hpc1Range i hi, BitVec.getMsbD_xor, hclear,
      Bool.xor_false]
  rw [desKeySchedule, desKeySchedule, hsame]

/-- PC1 takes no parity bit: neither the mask of all eight nor any one of them stands at an entry (R114). -/
theorem pc1Table_skips_parity :
    (∀ t ∈ pc1Table, (0x0101010101010101#64).getMsbD (t - 1) = false) ∧
    ∀ j : Fin 8, ∀ t ∈ pc1Table, (1#64 <<< (8 * j.val)).getMsbD (t - 1) = false := by
  decide

/-- Settles O52: PC1 skips the parity bits. -/
theorem desParityBitsDoNotMatter : Obligations.DesParityBitsDoNotMatter := fun k =>
  ⟨desKeySchedule_xor k _ pc1Table_skips_parity.1, fun j => desKeySchedule_xor k _ (pc1Table_skips_parity.2 j)⟩

/-! ### The rounds of the block transform -/

/-- The halves (L, R) of a block (R120). -/
def desHalves (x : Block64) : Word × Word := (x.extractLsb' 32 32, x.extractLsb' 0 32)

/-- The halves put together are the block. -/
theorem append_desHalves (x : Block64) : (desHalves x).1 ++ (desHalves x).2 = x :=
  BitVec.extractLsb'_append_extractLsb' (w := 32) (len := 32)

/-- The halves of two halves put together. -/
theorem desHalves_append (a b : Word) : desHalves (a ++ b) = (a, b) :=
  Prod.ext BitVec.extractLsb'_append_eq_left BitVec.extractLsb'_append_eq_right

/-- The rounds run from the halves of the block, and put R first (R120). -/
theorem desRounds_eq (x : Block64) (ks : List RoundKey) :
    desRounds x ks = (ks.foldl desRound (desHalves x)).2 ++ (ks.foldl desRound (desHalves x)).1 := rfl

/-- The two halves swapped, a round undoes the round under the same key: R xors the same f(R) again. -/
theorem desRound_swap_desRound (lr : Word × Word) (k : RoundKey) : desRound (desRound lr k).swap k = lr.swap := by
  obtain ⟨left, right⟩ := lr
  simp only [desRound, Prod.swap_prod_mk, BitVec.xor_assoc, BitVec.xor_self, BitVec.xor_zero]

/-- So the rounds under the reversed keys undo the rounds, from the last to the first (R124). -/
theorem foldl_desRound_reverse (ks : List RoundKey) (lr : Word × Word) :
    ks.reverse.foldl desRound (ks.foldl desRound lr).swap = lr.swap := by
  induction ks generalizing lr with
  | nil => rfl
  | cons k ks ih =>
    rw [List.reverse_cons, List.foldl_append, List.foldl_cons (l := ks), ih]
    exact desRound_swap_desRound lr k

/-- The rounds with their swap, under the reversed keys, undo themselves (R124). -/
theorem desRounds_reverse_desRounds (x : Block64) (ks : List RoundKey) :
    desRounds (desRounds x ks) ks.reverse = x := by
  have hundone := foldl_desRound_reverse ks (desHalves x)
  have hhalves : desHalves (desRounds x ks) = (ks.foldl desRound (desHalves x)).swap :=
    desHalves_append _ _
  rw [desRounds_eq (desRounds x ks), hhalves, hundone]
  exact append_desHalves x

/-- Under the reversed keys the block transform undoes itself: IP and IP⁻¹ cancel around the rounds (R124). -/
theorem desProcess_reverse_desProcess (x : Block64) (ks : List RoundKey) :
    desProcess (desProcess x ks) ks.reverse = x := by
  obtain ⟨hcancel, hip, hlength, hinverse⟩ := inversePermutationsCancel
  have hperm := hcancel 64 ipTable ipInvTable hip hlength hinverse
  rw [desProcess, desProcess, (hperm _).1, desRounds_reverse_desRounds, (hperm _).2]

/-- Settles O51: the keys reversed twice are the keys. -/
theorem desDecryptUndoesEncrypt : Obligations.DesDecryptUndoesEncrypt := by
  refine fun x ks => ⟨desProcess_reverse_desProcess x ks, ?_⟩
  have hreversed := desProcess_reverse_desProcess x ks.reverse
  rwa [List.reverse_reverse] at hreversed

/-- The halves of a block after its first i rounds (R120). -/
def desHalvesAfter (x : Block64) (ks : List RoundKey) (i : Nat) : Word × Word :=
  (ks.take i).foldl desRound (desHalves x)

/-- Before the first round they are the halves of the block. -/
theorem desHalvesAfter_zero_append (x : Block64) (ks : List RoundKey) :
    (desHalvesAfter x ks 0).1 ++ (desHalvesAfter x ks 0).2 = x := append_desHalves x

/-- Each round takes the halves of the round before under its own key (R120). -/
theorem desHalvesAfter_succ (x : Block64) (ks : List RoundKey) {i : Nat} (hi : i < ks.length) :
    desHalvesAfter x ks (i + 1) = desRound (desHalvesAfter x ks i) (ks.getD i 0) := by
  rw [desHalvesAfter, List.take_succ_eq_append_getElem hi, List.foldl_append, List.getD_eq_getElem _ _ hi]
  rfl

/-- The rounds end with the halves after all of them, R first (R120). -/
theorem desRounds_eq_desHalvesAfter (x : Block64) (ks : List RoundKey) :
    desRounds x ks = (desHalvesAfter x ks ks.length).2 ++ (desHalvesAfter x ks ks.length).1 := by
  rw [desHalvesAfter, List.take_length, desRounds_eq]

/-- The completion of DES_ENC or DES_DEC with legal fields and a key (R122, R123). -/
theorem desCipher_of_legal {f : Args} {s : State} {l : InFlight} (hl : s.inflight = some l)
    (hdkv : s.dkv = true) (ha : f.a = 8) (hrsv : f.rsv = 0) (hb : f.b = 0) (hc : f.c = 0)
    (keys : List RoundKey) :
    desCipher f s keys = .next { s with
      dout := dout64 (desProcess l.snap.desBlock keys), done := true, inflight := none } := by
  have hclear : ¬ f.rsvdButA = true := by simp [rsvdButA_iff, hrsv, hb, hc]
  have hlength : ¬ (f.a != Config.desBytes) = true := by simp [ha, Config.desBytes]
  have hkey : ¬ (!s.dkv) = true := by simp [hdkv]
  rw [desCipher, complete_of_inflight s _ l hl, if_neg hclear, if_neg hlength, if_neg hkey]
  rfl

/-- DOUT0 || DOUT1 is the 8-byte result written to them (R122). -/
theorem dout64_append (y : Block64) : (dout64 y)[0] ++ (dout64 y)[1] = y := append_desHalves y

/-- Settles O39: both commands are `desCipher`, and the halves are `desHalvesAfter`. -/
theorem desEncDecTransformTheBlock : Obligations.DesEncDecTransformTheBlock := by
  constructor
  · intro f s l hl hdkv ha hrsv hb hc
    exact ⟨⟨_, desCipher_of_legal hl hdkv ha hrsv hb hc s.desSchedule, dout64_append _, rfl, rfl, rfl⟩,
      ⟨_, desCipher_of_legal hl hdkv ha hrsv hb hc s.desSchedule.reverse, dout64_append _, rfl, rfl, rfl⟩⟩
  · intro x ks
    obtain ⟨⟨hip, hipRange⟩, ⟨hipInv, hipInvRange⟩, -⟩ := desTables_inRange
    refine ⟨fun i => (desHalvesAfter (perm 64 ipTable x) ks i).1,
      fun i => (desHalvesAfter (perm 64 ipTable x) ks i).2, fun j => ?initial, fun i hi => ?round, fun j => ?final⟩
    case initial =>
      rw [desHalvesAfter_zero_append]
      exact getMsbD_perm _ _ hip hipRange _ j.isLt
    case round => exact Prod.ext_iff.mp (desHalvesAfter_succ _ ks hi)
    case final =>
      rw [desProcess, desRounds_eq_desHalvesAfter]
      exact getMsbD_perm _ _ hipInv hipInvRange _ j.isLt

/-! ### The f-function and the substitution layer -/

/-- A command that takes no argument, its fields 0, completes with what it writes. -/
theorem complete_of_fieldsClear {f : Args} {s : State} {l : InFlight} (hl : s.inflight = some l)
    (hrsv : f.rsv = 0) (ha : f.a = 0) (hb : f.b = 0) (hc : f.c = 0) (write : Snapshot → State) :
    complete s (fun p => if f.rsvdAll then .error .rsvd else .ok (write p)) =
      .next { write l.snap with done := true, inflight := none } := by
  have hclear : ¬ f.rsvdAll = true := by simp [rsvdAll_iff, hrsv, ha, hb, hc]
  rw [complete_of_inflight s _ l hl, if_neg hclear, finish_ok]

/-- Settles O40: E selects from the half before the xor, P from the substituted bits after it. -/
theorem desFAndDesSGiveOneWord : Obligations.DesFAndDesSGiveOneWord := by
  constructor
  · exact fun f s l hl hrsv ha hb hc =>
      ⟨complete_of_fieldsClear hl hrsv ha hb hc fun p => s.setDout (dout32 (feistelF p.din[0] p.din48)),
        complete_of_fieldsClear hl hrsv ha hb hc fun p => s.setDout (dout32 (sLayer p.din48))⟩
  · intro r k
    obtain ⟨-, -, ⟨he, heRange⟩, ⟨hp, hpRange⟩, -⟩ := desTables_inRange
    refine ⟨perm 48 eTable r ^^^ k, fun j => ?_, fun j => getMsbD_perm _ _ hp hpRange _ j.isLt⟩
    rw [BitVec.getMsbD_xor, getMsbD_perm _ _ he heRange _ j.isLt]

/-- The eight boxes, in order (R117). -/
def sBoxes : List (List (List Nat)) := [s1Box, s2Box, s3Box, s4Box, s5Box, s6Box, s7Box, s8Box]

/-- Every entry of a box is a 4-bit number (R117). -/
theorem sBoxes_entry_lt : ∀ box ∈ sBoxes, ∀ row ∈ box, ∀ entry ∈ row, entry < 16 := by
  decide

/-- A lookup in a box, the default 0 included, is a 4-bit number. -/
theorem getD_getD_lt {box : List (List Nat)} (h : ∀ row ∈ box, ∀ entry ∈ row, entry < 16) (row col : Nat) :
    (box.getD row []).getD col 0 < 16 := by
  by_cases hrow : row < box.length
  · rw [List.getD_eq_getElem _ _ hrow]
    by_cases hcol : col < box[row].length
    · rw [List.getD_eq_getElem _ _ hcol]
      exact h _ (List.getElem_mem hrow) _ (List.getElem_mem hcol)
    · rw [List.getD_eq_default _ _ (Nat.not_lt.mp hcol)]
      decide
  · rw [List.getD_eq_default _ _ (Nat.not_lt.mp hrow), List.getD_nil]
    decide

/-- The middle four of six bits as a number, position 0 the most significant (R117). -/
theorem toNat_middle_bits (y : BitVec 6) : (y.extractLsb' 1 4).toNat =
    8 * (y.getMsbD 1).toNat + 4 * (y.getMsbD 2).toNat + 2 * (y.getMsbD 3).toNat + (y.getMsbD 4).toNat := by
  revert y
  decide

/-- An S-box answers its entry at the row of the outer and the column of the middle bits (R117). -/
theorem toNat_desSbox {box : List (List Nat)} (h : ∀ row ∈ box, ∀ entry ∈ row, entry < 16) (y : BitVec 6) :
    (desSbox box y).toNat = (box.getD (2 * (y.getMsbD 0).toNat + (y.getMsbD 5).toNat) []).getD
      (8 * (y.getMsbD 1).toNat + 4 * (y.getMsbD 2).toNat + 2 * (y.getMsbD 3).toNat + (y.getMsbD 4).toNat) 0 := by
  rw [desSbox, toNat_middle_bits, BitVec.toNat_ofNat]
  exact Nat.mod_eq_of_lt (getD_getD_lt h _ _)

/-- The six bits of box j + 1 are input bits 6j .. 6j+5 (R117). -/
theorem getMsbD_sixBits (x : BitVec 48) {j i : Nat} (hj : j < 8) (hi : i < 6) :
    (sixBits x j).getMsbD i = x.getMsbD (6 * j + i) := by
  have hfits : 42 - 6 * j + 6 - i ≤ 48 := by omega
  have hsource : 48 - (42 - 6 * j + 6 - i) = 6 * j + i := by omega
  simp only [sixBits, BitVec.getMsbD_extractLsb', hi, hfits, hsource, decide_true, Bool.true_and]

/-- Output bits 4j .. 4j+3 of the substitution layer are what box j + 1 answers: one of the eight parts put
together (R117). -/
theorem extractLsb'_sLayer (x : BitVec 48) (j : Fin 8) :
    (sLayer x).extractLsb' (28 - 4 * j.val) 4 = desSbox (sBoxes.getD j.val []) (sixBits x j.val) := by
  fin_cases j <;> simp (disch := decide) only [sLayer, BitVec.extractLsb'_append_eq_of_le,
    BitVec.extractLsb'_append_eq_of_add_le, Nat.reduceSub, Nat.reduceMul, BitVec.extractLsb'_eq_self] <;> rfl

/-- Settles O53: by the box, its entry, and the six bits it takes. -/
theorem sLayerBoxByBox : Obligations.SLayerBoxByBox := by
  intro x j
  have hbox : sBoxes.getD j.val [] ∈ sBoxes := by
    rw [List.getD_eq_getElem _ _ j.isLt]
    exact List.getElem_mem _
  rw [extractLsb'_sLayer, toNat_desSbox (sBoxes_entry_lt _ hbox)]
  simp only [getMsbD_sixBits x j.isLt, Nat.reduceLT, Nat.add_zero]
  rfl

end Sys2Proof.Machine

namespace Sys2Proof.Machine

/-! ### The field GF(2^8)

Multiplication by a fixed byte is additive and commutes with `gdouble`. Every such map passes through the loop
of R142, and this gives the laws of R144 one after the other. -/

/-- The running multiple without its ninth bit: the low byte of GF_POLY where bit 7 leaves (R142). -/
theorem gdouble_eq (a : Byte) : gdouble a = a <<< 1 ^^^ if a.getLsbD 7 then 0x1B else 0 := by
  revert a
  decide +kernel

theorem gdouble_zero : gdouble 0 = 0 := by decide

/-- Doubling is additive: bit 7 of a sum is the sum of the bits, and so is the reduction. -/
theorem gdouble_xor (a b : Byte) : gdouble (a ^^^ b) = gdouble a ^^^ gdouble b := by
  have hreduce : ∀ x y : Bool, (if x ^^ y then (0x1B : Byte) else 0) =
      (if x then 0x1B else 0) ^^^ (if y then 0x1B else 0) := by decide
  rw [gdouble_eq, gdouble_eq, gdouble_eq, BitVec.shiftLeft_xor_distrib, BitVec.getLsbD_xor, hreduce]
  ac_rfl

/-- The loop is additive in its product and running multiple together. -/
theorem gmulLoop_xor (n : Nat) (p q a b c : Byte) :
    gmulLoop n (p ^^^ q) (a ^^^ b) c = gmulLoop n p a c ^^^ gmulLoop n q b c := by
  induction n generalizing p q a b c with
  | zero => rfl
  | succ n ih =>
    simp only [gmulLoop, ← ih, gdouble_xor]
    split
    · congr 1
      ac_rfl
    · rfl

/-- A map that is additive and commutes with `gdouble` passes through the loop. -/
theorem map_gmulLoop {f : Byte → Byte} (hxor : ∀ x y, f (x ^^^ y) = f x ^^^ f y)
    (hdouble : ∀ x, f (gdouble x) = gdouble (f x)) (n : Nat) (p a c : Byte) :
    f (gmulLoop n p a c) = gmulLoop n (f p) (f a) c := by
  induction n generalizing p a c with
  | zero => rfl
  | succ n ih => rw [gmulLoop, gmulLoop, ih, hdouble, apply_ite f, hxor]

/-- Multiplication distributes over sums on the left. -/
theorem gmul_xor_left (a b c : Byte) : gmul (a ^^^ b) c = gmul a c ^^^ gmul b c :=
  gmulLoop_xor 8 0 0 a b c

/-- 0 is its own sum with itself, so its products are 0. -/
theorem gmul_zero_left (c : Byte) : gmul 0 c = 0 := by
  have h := gmul_xor_left 0 0 c
  rwa [BitVec.xor_self, BitVec.xor_self] at h

theorem gmul_one_left (c : Byte) : gmul 1 c = c := by
  revert c
  decide +kernel

/-- Multiplication passes through `gdouble`, which itself passes through the loop. -/
theorem gmul_gdouble_left (a c : Byte) : gmul (gdouble a) c = gdouble (gmul a c) := by
  rw [gmul, gmul, map_gmulLoop gdouble_xor (fun _ => rfl), gdouble_zero]

/-- Two factors change places: multiplication by `c` passes through the loop of `gmul a b`. -/
theorem gmul_right_comm (a b c : Byte) : gmul (gmul a b) c = gmul (gmul a c) b := by
  have h := map_gmulLoop (f := (gmul · c)) (gmul_xor_left · · c) (gmul_gdouble_left · c) 8 0 a b
  rwa [gmul_zero_left] at h

theorem gmul_comm (a b : Byte) : gmul a b = gmul b a := by
  have h := gmul_right_comm 1 a b
  rwa [gmul_one_left, gmul_one_left] at h

theorem gmul_assoc (a b c : Byte) : gmul (gmul a b) c = gmul a (gmul b c) := by
  rw [gmul_comm a b, gmul_right_comm, gmul_comm]

theorem gmul_one (a : Byte) : gmul a 1 = a := by rw [gmul_comm, gmul_one_left]

theorem gmul_zero (a : Byte) : gmul a 0 = 0 := by rw [gmul_comm, gmul_zero_left]

theorem gmul_xor (a b c : Byte) : gmul a (b ^^^ c) = gmul a b ^^^ gmul a c := by
  rw [gmul_comm, gmul_xor_left, gmul_comm b, gmul_comm c]

/-! ### Inverses -/

/-- A byte has no more than one inverse. -/
theorem eq_of_gmul_eq_one {a b c : Byte} (hb : gmul a b = 1) (hc : gmul a c = 1) : b = c :=
  calc
    b = gmul b (gmul a c) := by rw [hc, gmul_one]
    _ = gmul (gmul a b) c := by rw [← gmul_assoc, gmul_comm b]
    _ = c := by rw [hb, gmul_one_left]

/-- No multiple of 0 is 1. -/
theorem ne_zero_of_gmul_eq_one {a b : Byte} (h : gmul a b = 1) : b ≠ 0 := by
  rintro rfl
  rw [gmul_zero] at h
  exact absurd h (by decide)

/-- The search finds an inverse when one stands among its candidates (R143). -/
theorem gmul_ginvFrom (n k : Nat) (a b : Byte) (hk : k < n) (h : gmul a (b + BitVec.ofNat 8 k) = 1) :
    gmul a (ginvFrom n a b) = 1 := by
  induction n generalizing k b with
  | zero => omega
  | succ n ih =>
    rw [ginvFrom]
    split
    case isTrue hfound => exact hfound
    case isFalse hnext =>
      cases k with
      | zero => exact absurd (by simpa using h) hnext
      | succ k =>
        refine ih k (b + 1) (by omega) ?_
        rwa [BitVec.ofNat_add, BitVec.add_comm (BitVec.ofNat 8 k), ← BitVec.add_assoc] at h

theorem ginv_zero : ginv 0 = 0 := rfl

/-- The search runs over all of 1 .. 255, so it finds any inverse there is, and there is only one (R143). -/
theorem ginv_eq_of_gmul_eq_one {a b : Byte} (h : gmul a b = 1) : ginv a = b := by
  have ha : a ≠ 0 := ne_zero_of_gmul_eq_one (gmul_comm a b ▸ h)
  have hb : b ≠ 0 := ne_zero_of_gmul_eq_one h
  have hplace : (b - 1).toNat < 255 := by bv_omega
  have hcandidate : 1 + BitVec.ofNat 8 (b - 1).toNat = b := by
    rw [BitVec.ofNat_toNat, BitVec.setWidth_eq, BitVec.add_comm, BitVec.sub_add_cancel]
  rw [ginv, if_neg ha]
  exact eq_of_gmul_eq_one (gmul_ginvFrom 255 _ a 1 hplace (hcandidate.symm ▸ h)) h

/-- Off 0, the CONST_ONLY table without its constant lists an inverse of every byte. -/
theorem gmul_sboxConstOnly (a : Byte) (ha : a ≠ 0) : gmul a (sboxOf .constOnly a ^^^ 0x63) = 1 := by
  revert a
  decide +kernel

/-- So that table is `ginv` and the constant (R145); at 0 both sides are 0. -/
theorem ginv_eq_sboxConstOnly (a : Byte) : ginv a = sboxOf .constOnly a ^^^ 0x63 := by
  by_cases ha : a = 0
  · subst ha
    decide
  · exact ginv_eq_of_gmul_eq_one (gmul_sboxConstOnly a ha)

theorem gmul_ginv {a : Byte} (ha : a ≠ 0) : gmul a (ginv a) = 1 := by
  rw [ginv_eq_sboxConstOnly, gmul_sboxConstOnly a ha]

theorem ginv_ginv (a : Byte) : ginv (ginv a) = a := by
  by_cases ha : a = 0
  · rw [ha, ginv_zero, ginv_zero]
  · exact ginv_eq_of_gmul_eq_one (by rw [gmul_comm, gmul_ginv ha])

/-- Settles O57: from the laws above, one by one. -/
theorem fieldLaws : Obligations.FieldLaws :=
  ⟨fun a => ⟨BitVec.xor_self, gmul_one a, gmul_zero a, ginv_ginv a⟩, fun _ => gmul_ginv, gmul_comm,
    fun a b c => (gmul_assoc a b c).symm, gmul_xor⟩

/-- Settles O58: `ginv` is an inverse, and there is no other. -/
theorem inverseIsTheOneByte : Obligations.InverseIsTheOneByte :=
  ⟨ginv_zero, fun _ _ ha => ⟨fun h => (ginv_eq_of_gmul_eq_one h).symm, fun h => h ▸ gmul_ginv ha⟩⟩

/-! ### The S-boxes -/

/-- The FIPS197 table is the affine map over the CONST_ONLY one, the constant taken off and put on again. -/
theorem sboxFips197_eq (x : Byte) :
    sboxOf .fips197 x = affineMap (sboxOf .constOnly x ^^^ 0x63) ^^^ 0x63 := by
  revert x
  decide +kernel

/-- Settles O59: the CONST_ONLY table is `ginv` and the constant, and gives the other one. -/
theorem sboxIsInverseThenAffine : Obligations.SboxIsInverseThenAffine := by
  intro x
  constructor
  · rw [ginv_eq_sboxConstOnly, BitVec.xor_assoc, BitVec.xor_self, BitVec.xor_zero]
  · rw [sboxFips197_eq, ← ginv_eq_sboxConstOnly, affineMap]

theorem isboxOf_sboxOf (p : SboxAffine) (x : Byte) : isboxOf p (sboxOf p x) = x := by
  cases p with
  | constOnly => revert x; decide +kernel
  | fips197 => revert x; decide +kernel

/-- ISBOX undoes SBOX, so SBOX takes no value twice; the bytes are finitely many, so it takes every one. -/
theorem sboxOf_isboxOf (p : SboxAffine) (y : Byte) : sboxOf p (isboxOf p y) = y := by
  have hinjective : Function.Injective (sboxOf p) := Function.LeftInverse.injective (isboxOf_sboxOf p)
  obtain ⟨x, rfl⟩ := Finite.surjective_of_injective hinjective y
  rw [isboxOf_sboxOf]

/-- Settles O60: under CONST_ONLY, `ginv` of the entry of ISBOX is y without the constant. -/
theorem isboxUndoesSbox : Obligations.IsboxUndoesSbox := by
  refine ⟨fun p x => ⟨isboxOf_sboxOf p x, sboxOf_isboxOf p x⟩, fun y => ?_⟩
  rw [← ginv_ginv (isboxOf .constOnly y), ginv_eq_sboxConstOnly (isboxOf .constOnly y), sboxOf_isboxOf]

/-! ### The GF commands -/

/-- The completion of a GF command with its fields 0: the result of the snapshot, in GF_R. -/
theorem gfCommand_of_fieldsClear {f : Args} {s : State} {l : InFlight} (hl : s.inflight = some l)
    (hrsv : f.rsv = 0) (ha : f.a = 0) (hb : f.b = 0) (hc : f.c = 0) (result : Snapshot → Byte) :
    gfCommand f s result = .next { s with gfR := result l.snap, done := true, inflight := none } :=
  complete_of_fieldsClear hl hrsv ha hb hc fun p => s.setGfR (result p)

/-- Settles O47: each of the five is a `gfCommand`. -/
theorem gfCommandsWriteGfR : Obligations.GfCommandsWriteGfR := by
  intro f s l hl hrsv ha hb hc
  have hcomplete := gfCommand_of_fieldsClear hl hrsv ha hb hc
  exact ⟨hcomplete fun p => gadd p.gfA p.gfB, hcomplete fun p => gmul p.gfA p.gfB,
    hcomplete fun p => ginv p.gfA, hcomplete fun p => sboxOf s.sboxAffine p.gfA,
    hcomplete fun p => isboxOf s.sboxAffine p.gfA⟩

end Sys2Proof.Machine

namespace Sys2Proof.Machine

/-! ### MixColumns and its inverse -/

/-- Two circulant products, one after the other, are the product with the cyclic convolution of their first rows
(R167, R171). -/
theorem mixCell_matrix_mixCell (k0 k1 k2 k3 l0 l1 l2 l3 : Byte) (m : CipherState) (r c : Fin 4) :
    mixCell k0 k1 k2 k3 (matrix (mixCell l0 l1 l2 l3 m)) r c =
      mixCell (gmul k0 l0 ^^^ gmul k1 l3 ^^^ gmul k2 l2 ^^^ gmul k3 l1)
        (gmul k0 l1 ^^^ gmul k1 l0 ^^^ gmul k2 l3 ^^^ gmul k3 l2)
        (gmul k0 l2 ^^^ gmul k1 l1 ^^^ gmul k2 l0 ^^^ gmul k3 l3)
        (gmul k0 l3 ^^^ gmul k1 l2 ^^^ gmul k2 l1 ^^^ gmul k3 l0) m r c := by
  simp only [mixCell, cell_matrix, gmul_xor, gmul_xor_left, gmul_assoc, add_assoc, Fin.reduceAdd, add_zero]
  ac_rfl

/-- The circulant matrix with first row 01 00 00 00 is the identity. -/
theorem mixCell_one_zero (m : CipherState) (r c : Fin 4) : mixCell 1 0 0 0 m r c = cell m r c := by
  rw [mixCell, gmul_one_left, gmul_zero_left, gmul_zero_left, gmul_zero_left]
  simp only [BitVec.ofNat_eq_ofNat, BitVec.xor_zero]

/-- The rows 0E 0B 0D 09 and 02 03 01 01 convolve to 01 00 00 00 (R171). -/
@[simp] theorem invMixColumns_mixColumns (m : CipherState) : invMixColumns (mixColumns m) = m := by
  refine cipherState_ext _ _ fun r c => ?_
  rw [invMixColumns, cell_matrix, mixColumns, mixCell_matrix_mixCell]
  exact mixCell_one_zero m r c

@[simp] theorem mixColumns_invMixColumns (m : CipherState) : mixColumns (invMixColumns m) = m := by
  refine cipherState_ext _ _ fun r c => ?_
  rw [mixColumns, cell_matrix, invMixColumns, mixCell_matrix_mixCell]
  exact mixCell_one_zero m r c

/-- Settles O56: the two circulant matrices are inverse to each other. -/
theorem invMixColumnsUndoesMixColumns : Obligations.InvMixColumnsUndoesMixColumns :=
  fun m => ⟨invMixColumns_mixColumns m, mixColumns_invMixColumns m⟩

/-! ### The other round transforms and their inverses -/

@[simp] theorem invSubBytes_subBytes (p : SboxAffine) (m : CipherState) : invSubBytes p (subBytes p m) = m :=
  cipherState_ext _ _ fun r c => by rw [invSubBytes, cell_matrix, subBytes, cell_matrix, isboxOf_sboxOf]

@[simp] theorem subBytes_invSubBytes (p : SboxAffine) (m : CipherState) : subBytes p (invSubBytes p m) = m :=
  cipherState_ext _ _ fun r c => by rw [subBytes, cell_matrix, invSubBytes, cell_matrix, sboxOf_isboxOf]

@[simp] theorem invShiftRows_shiftRows (m : CipherState) : invShiftRows (shiftRows m) = m :=
  cipherState_ext _ _ fun r c => by rw [invShiftRows, cell_matrix, shiftRows, cell_matrix, sub_add_cancel]

@[simp] theorem shiftRows_invShiftRows (m : CipherState) : shiftRows (invShiftRows m) = m :=
  cipherState_ext _ _ fun r c => by rw [shiftRows, cell_matrix, invShiftRows, cell_matrix, add_sub_cancel_right]

/-- Adding the same round key twice changes nothing (R168). -/
@[simp] theorem addRoundKey_addRoundKey (w : Nat → Word) (rnd : Nat) (m : CipherState) :
    addRoundKey w rnd (addRoundKey w rnd m) = m :=
  cipherState_ext _ _ fun r c => by
    rw [addRoundKey, cell_matrix, addRoundKey, cell_matrix, BitVec.xor_assoc, BitVec.xor_self, BitVec.xor_zero]

/-! ### Decryption undoes encryption

The rounds of decryption are shifted against those of encryption: SubBytes and ShiftRows belong to the next round
of encryption, and decryption undoes them first. So the inverse rounds run on `shiftRows (subBytes p m)`, not on
`m`. -/

/-- A round of decryption takes the substituted and shifted outcome of the round of encryption back to its
substituted and shifted input (R172, R173). -/
theorem decRound_encRound (p : SboxAffine) (w : Nat → Word) (rnd : Nat) (m : CipherState) :
    decRound p w rnd (shiftRows (subBytes p (encRound p w rnd m))) = shiftRows (subBytes p m) := by
  simp [decRound, encRound]

theorem encRound_decRound (p : SboxAffine) (w : Nat → Word) (rnd : Nat) (m : CipherState) :
    encRound p w rnd (invSubBytes p (invShiftRows (decRound p w rnd m))) = invSubBytes p (invShiftRows m) := by
  simp [decRound, encRound]

/-- The last round of encryption is the first that decryption undoes. -/
theorem decRounds_encRounds (p : SboxAffine) (w : Nat → Word) (n : Nat) (m : CipherState) :
    decRounds p w n (shiftRows (subBytes p (encRounds p w n m))) = shiftRows (subBytes p m) := by
  induction n with
  | zero => rfl
  | succ n ih => rw [decRounds, encRounds, decRound_encRound, ih]

theorem encRounds_decRounds (p : SboxAffine) (w : Nat → Word) (n : Nat) (m : CipherState) :
    encRounds p w n (invSubBytes p (invShiftRows (decRounds p w n m))) = invSubBytes p (invShiftRows m) := by
  induction n generalizing m with
  | zero => rfl
  | succ n ih => rw [decRounds, encRounds, ih, encRound_decRound]

/-- Settles O55: the first and last round keys cancel around the rounds. -/
theorem aesDecryptUndoesEncrypt : Obligations.AesDecryptUndoesEncrypt := by
  intro p w nr q
  constructor
  · simp [aesDecrypt, aesEncrypt, decRounds_encRounds]
  · simp [aesDecrypt, aesEncrypt, encRounds_decRounds]

/-! ### AES_ENC and AES_DEC, round by round -/

/-- The matrix after the first r of the rounds n down to 1 of decryption (R173). -/
def decStateAfter (p : SboxAffine) (w : Nat → Word) (n : Nat) (m : CipherState) : Nat → CipherState
  | 0 => m
  | r + 1 => decRound p w (n - r) (decStateAfter p w n m r)

/-- The rounds after the first, n + 1, are the rounds from n on. -/
theorem decStateAfter_succ_succ (p : SboxAffine) (w : Nat → Word) (n : Nat) (m : CipherState) (r : Nat) :
    decStateAfter p w (n + 1) m (r + 1) = decStateAfter p w n (decRound p w (n + 1) m) r := by
  induction r with
  | zero => rfl
  | succ r ih => rw [decStateAfter, ih, Nat.add_sub_add_right, decStateAfter]

/-- All n of them are the rounds of decryption (R173). -/
theorem decRounds_eq_decStateAfter (p : SboxAffine) (w : Nat → Word) (n : Nat) (m : CipherState) :
    decRounds p w n m = decStateAfter p w n m n := by
  induction n generalizing m with
  | zero => rfl
  | succ n ih => rw [decRounds, ih, decStateAfter_succ_succ]

/-- The completion of AES_ENC or AES_DEC with legal fields and a key (R176, R177). -/
theorem aesCipher_of_legal {f : Args} {s : State} {l : InFlight} (hl : s.inflight = some l)
    (hakv : s.akv = true) (ha : f.a = 16) (hrsv : f.rsv = 0) (hb : f.b = 0) (hc : f.c = 0)
    (transform : Vector Word 4 → Vector Word 4) :
    aesCipher f s transform = .next { s with dout := transform l.snap.din, done := true, inflight := none } := by
  have hclear : ¬ f.rsvdButA = true := by simp [rsvdButA_iff, hrsv, hb, hc]
  have hlength : ¬ (f.a != Config.aesBlockBytes) = true := by simp [ha, Config.aesBlockBytes]
  have hkey : ¬ (!s.akv) = true := by simp [hakv]
  rw [aesCipher, complete_of_inflight s _ l hl, if_neg hclear, if_neg hlength, if_neg hkey]
  rfl

/-- Settles O42: both commands are `aesCipher`; the matrices are those after the first rounds. -/
theorem aesEncDecTransformTheBlock : Obligations.AesEncDecTransformTheBlock := by
  constructor
  · exact fun f s l hl hakv ha hrsv hb hc =>
      ⟨aesCipher_of_legal hl hakv ha hrsv hb hc (aesEncrypt s.sboxAffine s.scheduleWord s.anr.toNat),
        aesCipher_of_legal hl hakv ha hrsv hb hc (aesDecrypt s.sboxAffine s.scheduleWord s.anr.toNat)⟩
  · intro p w n q
    constructor
    · exact ⟨fun r => encRounds p w r (addRoundKey w 0 (toState q)), rfl, fun _ _ => rfl, rfl⟩
    · refine ⟨decStateAfter p w n (addRoundKey w (n + 1) (toState q)), rfl, fun _ _ => rfl, ?_⟩
      rw [← decRounds_eq_decStateAfter]
      rfl

/-! ### SubBytes and MixColumns as commands -/

/-- Settles O43: SubBytes and InvSubBytes, entry by entry. -/
theorem aesSbIsbSubstituteEveryByte : Obligations.AesSbIsbSubstituteEveryByte := by
  refine fun f s l hl hrsv ha hb hc => ⟨?forward, ?inverse⟩
  case forward =>
    refine ⟨_, stateCommand_of_fieldsClear hl hrsv ha hb hc (subBytes s.sboxAffine), fun r c => ?_, rfl⟩
    rw [wordByte_fromState, subBytes, cell_matrix, cell_toState]
  case inverse =>
    refine ⟨_, stateCommand_of_fieldsClear hl hrsv ha hb hc (invSubBytes s.sboxAffine), fun r c => ?_, rfl⟩
    rw [wordByte_fromState, invSubBytes, cell_matrix, cell_toState]

/-- Settles O45: the products with the two first rows; a product with 01 is the byte itself. -/
theorem aesMcImcMixColumns : Obligations.AesMcImcMixColumns := by
  refine fun f s l hl hrsv ha hb hc => ⟨?forward, ?inverse⟩
  case forward =>
    refine ⟨_, stateCommand_of_fieldsClear hl hrsv ha hb hc mixColumns, fun r c => ?_, rfl⟩
    simp only [wordByte_fromState, mixColumns, cell_matrix, mixCell, cell_toState, gmul_one_left]
  case inverse =>
    refine ⟨_, stateCommand_of_fieldsClear hl hrsv ha hb hc invMixColumns, fun r c => ?_, rfl⟩
    simp only [wordByte_fromState, invMixColumns, cell_matrix, mixCell, cell_toState]

/-! ### AES_ARK -/

/-- Words with the same bytes are equal (R53). -/
theorem word_ext_bytes {v w : Word} (h : ∀ r, wordByte v r = wordByte w r) : v = w := by
  rw [← word_of_bytes v, ← word_of_bytes w, h, h, h, h]

/-- The round key is added to whole columns (R53, R168). -/
theorem column_addRoundKey_toState (w : Nat → Word) (rnd : Nat) (q : Vector Word 4) (c : Fin 4) :
    column (addRoundKey w rnd (toState q)) c = w (4 * rnd + c.val) ^^^ q[c] :=
  word_ext_bytes fun r => by
    rw [wordByte_column, addRoundKey, cell_matrix, cell_toState, BitVec.xor_comm, wordByte, wordByte, wordByte,
      BitVec.extractLsb'_xor]

/-- The completion of AES_ARK with its reserved fields 0 and a key, up to its check of the round index (R181). -/
theorem exec_aesArk_of_keyed {f : Args} {s : State} {l : InFlight} (hl : s.inflight = some l)
    (hreserved : ¬ reservedViolated (.aesArk f)) (hakv : s.akv = true) :
    exec (.aesArk f) s = .next (s.finish (if s.anr.toNat < f.b.toNat then .error .argRange
      else .ok (s.setDout (fromState (addRoundKey s.scheduleWord f.b.toNat (toState l.snap.din)))))) := by
  have hkey : ¬ (!s.akv) = true := by simp [hakv]
  rw [exec, execAesArk, complete_of_inflight s _ l hl, if_neg (mt (rsvdButB_iff f).mp hreserved), if_neg hkey]

/-- Settles O34: the check of the round index is the last. -/
theorem roundIndexAboveAnrIsRefused : Obligations.RoundIndexAboveAnrIsRefused := by
  intro f s l hl hreserved hakv habove
  rw [exec_aesArk_of_keyed hl hreserved hakv, if_pos habove]
  rfl

/-- A state that meets the STATUS invariants holds the four words of every round key up to ANR (R19, R30). -/
theorem StatusInv.roundKey_index_lt {s : State} (h : StatusInv s) {rnd : Nat} (hrnd : rnd ≤ s.anr.toNat)
    (c : Fin 4) : 4 * rnd + c.val < 60 := by
  have hanr : s.anr.toNat ≤ 14 := by obtain hanr | hanr | hanr | hanr := h.rounds <;> rw [hanr] <;> decide
  omega

/-- Settles O46: the round key's words stand in AW, and DIN xored twice cancels. -/
theorem aesArkXorsTheRoundKey : Obligations.AesArkXorsTheRoundKey := by
  intro f s l hinv hl hreserved hakv hrnd
  refine ⟨_, exec_aesArk_of_keyed hl hreserved hakv, ?_⟩
  rw [if_neg (Nat.not_lt.mpr hrnd), finish_ok]
  refine ⟨fun c => ?_, rfl⟩
  have hindex := hinv.roundKey_index_lt hrnd c
  simp only [State.setDout, fromState_get, column_addRoundKey_toState, State.scheduleWord, dif_pos hindex,
    BitVec.xor_assoc, BitVec.xor_self, BitVec.xor_zero]
  exact Vector.getElem?_eq_getElem hindex

/-! ### The key expansion -/

@[simp] theorem aesKeySchedule_length (p : SboxAffine) (nk : Nat) (key : List Word) :
    (aesKeySchedule p nk key).length = key.length + (4 * (nk + 6 + 1) - nk) :=
  expandKey_length p nk _ key

/-- Key expansion does not change the words it starts from (R164). -/
theorem getD_expandKey_of_lt (p : SboxAffine) (nk n : Nat) (w : List Word) {i : Nat} (hi : i < w.length) :
    (expandKey p nk n w).getD i 0 = w.getD i 0 := by
  obtain ⟨v, -, he⟩ := expandKey_append p nk n w
  rw [he, List.getD_append _ _ _ _ hi]

/-- Every word that key expansion adds is the next word after those before it (R164). -/
theorem getD_expandKey_of_le (p : SboxAffine) (nk n : Nat) (w : List Word) {i : Nat} (hle : w.length ≤ i)
    (hlt : i < w.length + n) :
    (expandKey p nk n w).getD i 0 = nextKeyWord p nk ((expandKey p nk n w).take i) := by
  induction n generalizing w with
  | zero => omega
  | succ n ih =>
    rw [expandKey]
    obtain rfl | hgt := hle.eq_or_lt
    · obtain ⟨v, -, he⟩ := expandKey_append p nk n (w ++ [nextKeyWord p nk w])
      simp [he]
    · have hlength : (w ++ [nextKeyWord p nk w]).length = w.length + 1 := by simp
      exact ih _ (by omega) (by omega)

/-- Of the first i entries, those below i are read from the whole list. -/
theorem getD_take_of_lt {α : Type} (xs : List α) (d : α) {i j : Nat} (h : j < i) :
    (xs.take i).getD j d = xs.getD j d := by
  rw [List.getD_eq_getElem?_getD, List.getElem?_take_of_lt h, List.getD_eq_getElem?_getD]

/-- The next word after the first i words, read from the whole list (R164). -/
theorem nextKeyWord_take (p : SboxAffine) {nk i : Nat} (w : List Word) (hnk : 0 < nk) (hi : 0 < i)
    (hlength : i ≤ w.length) :
    nextKeyWord p nk (w.take i) = w.getD (i - nk) 0 ^^^
      (if i % nk = 0 then subWord p (rotWord (w.getD (i - 1) 0)) ^^^ (rcon (i / nk) ++ (0 : BitVec 24))
      else if nk = 8 ∧ i % nk = 4 then subWord p (w.getD (i - 1) 0)
      else w.getD (i - 1) 0) := by
  rw [nextKeyWord, List.length_take_of_le hlength, getD_take_of_lt w 0 (Nat.sub_lt hi hnk),
    getD_take_of_lt w 0 (Nat.sub_lt hi Nat.one_pos)]

/-- A byte above 24 zero bits. -/
theorem append_zero_eq_shiftLeft (b : Byte) : b ++ (0 : BitVec 24) = b.setWidth 32 <<< 24 := by
  apply BitVec.eq_of_getLsbD_eq
  intro i hi
  rw [BitVec.getLsbD_append, BitVec.getLsbD_shiftLeft, BitVec.getLsbD_setWidth]
  by_cases hlow : i < 24
  · simp [hlow]
  · have hhigh : i - 24 < 32 := by omega
    simp [hlow, hhigh, hi]

/-- Position i of byte r is position 8r + i of the word (R52). -/
theorem getMsbD_wordByte (w : Word) (r : Fin 4) {i : Nat} (hi : i < 8) :
    (wordByte w r).getMsbD i = w.getMsbD (8 * r.val + i) := by
  have hfits : 24 - 8 * r.val + 8 - i ≤ 32 := by omega
  have hsource : 32 - (24 - 8 * r.val + 8 - i) = 8 * r.val + i := by omega
  simp only [wordByte, BitVec.getMsbD_extractLsb', hi, hfits, hsource, decide_true, Bool.true_and]

/-- SubWord substitutes each byte (R162). -/
theorem wordByte_subWord (p : SboxAffine) (w : Word) (r : Fin 4) :
    wordByte (subWord p w) r = sboxOf p (wordByte w r) := by
  have hcolumn : subWord p w = column (matrix fun r _ => sboxOf p (wordByte w r)) 0 := rfl
  rw [hcolumn, wordByte_column, cell_matrix]

/-- RotWord moves each byte one place up (R162). -/
theorem wordByte_rotWord (w : Word) (r : Fin 4) : wordByte (rotWord w) r = wordByte w (r + 1) := by
  apply BitVec.eq_of_getMsbD_eq
  intro i hi
  have hpos : 8 * r.val + i < 32 := by omega
  have hsource : (8 + (8 * r.val + i)) % 32 = 8 * (r + 1).val + i := by omega
  rw [getMsbD_wordByte _ r hi, getMsbD_wordByte w (r + 1) hi, rotWord, BitVec.getMsbD_rotateLeft, hsource]
  simp only [hpos, decide_true, Bool.true_and]

/-- Settles O54: every added word is `nextKeyWord` of the words before it. -/
theorem keyExpansionRecurrence : Obligations.KeyExpansionRecurrence := by
  refine ⟨fun p nk key hnk hkey => ⟨?length, fun i hi => ?key, fun i hle hlt => ?next⟩,
    fun p w r => ⟨wordByte_subWord p w r, wordByte_rotWord w r⟩, rfl, by decide⟩
  case length =>
    rw [aesKeySchedule_length]
    omega
  case key => exact getD_expandKey_of_lt p nk _ key (hkey ▸ hi)
  case next =>
    have hend : i < key.length + (4 * (nk + 6 + 1) - nk) := by omega
    have hlength : i ≤ (aesKeySchedule p nk key).length := by
      rw [aesKeySchedule_length]
      exact hend.le
    rw [← append_zero_eq_shiftLeft, ← nextKeyWord_take p _ (by omega) (by omega) hlength]
    exact getD_expandKey_of_le p nk _ key (hkey ▸ hle) hend

/-! ### AES_KS -/

/-- AES_KS writes the expansion into the words below its end (R175). -/
theorem awFile_below (p : SboxAffine) (nk : Nat) (key : List Word) (i : Fin 60)
    (hi : i.val < (aesKeySchedule p nk key).length) :
    (aesKeySchedule p nk key)[i.val]? = some (awFile p nk key)[i] := by
  rw [awFile, Fin.getElem_fin, getElem_tabulate, List.getD_eq_getElem _ _ hi, List.getElem?_eq_getElem hi]

/-- The completion of AES_KS with legal fields: a quarter of A is the number of key words (R175). -/
theorem exec_aesKs_of_legal {f : Args} {s : State} {l : InFlight} {nk : Nat} (hl : s.inflight = some l)
    (hreserved : ¬ reservedViolated (.aesKs f)) (hnk : nk = 4 ∨ nk = 6 ∨ nk = 8) (ha : f.a.toNat = 4 * nk) :
    exec (.aesKs f) s = .next { s with
      aw := awFile s.sboxAffine nk (l.snap.keyWords nk), akv := true
      anr := BitVec.ofNat 4 (roundsOf nk), done := true, inflight := none } := by
  have hlegal : f.a = 16 ∨ f.a = 24 ∨ f.a = 32 := by
    obtain rfl | rfl | rfl := hnk <;> bv_omega
  have hlength : ¬ (!Config.aesKeyBytes.contains f.a) = true :=
    fun h => (aesKeyBytes_not_contains_iff f.a).mp h hlegal
  have hwords : f.a.toNat / 4 = nk := by omega
  rw [exec, execAesKs, complete_of_inflight s _ l hl, if_neg (mt (rsvdButA_iff f).mp hreserved), if_neg hlength,
    hwords]
  rfl

/-- Settles O41: the words below and above the end of the expansion. -/
theorem aesKsStoresTheExpansion : Obligations.AesKsStoresTheExpansion := by
  intro f s l nk hl hreserved hnk ha
  have hkey : (l.snap.key.toList.take nk).length = nk := keyWords_length l.snap nk (by omega)
  refine ⟨_, exec_aesKs_of_legal hl hreserved hnk ha, toNat_roundsOf nk hnk, fun i hi => ?_,
    awFile_above s.sboxAffine nk _ hkey, rfl⟩
  refine awFile_below s.sboxAffine nk _ i ?_
  rw [aesKeySchedule_length]
  omega

end Sys2Proof.Machine

namespace Sys2Proof.Machine

/-! ### The step answers, and runs the command in flight -/

/-- The engine's step answers: it asks for a completion only where a command is in flight (R192). -/
theorem engineStep_answers (s : State) : Answers (engineStep s) := by
  obtain ⟨-, hidle⟩ | ⟨l, e, -, -, hillegal⟩ | ⟨l, i, hl, -, hexec⟩ := engineStep_cases s
  · exact ⟨_, hidle⟩
  · exact ⟨_, hillegal⟩
  · obtain ⟨t, hnext, -⟩ := exec_of_inflight i s l hl
    exact ⟨t, hexec.trans hnext⟩

/-- Settles O22: a turn of the host or of the reset names its next state; the others are the engine's. -/
theorem stepAlwaysAnswers : Obligations.StepAlwaysAnswers := by
  intro s
  obtain ⟨-, hstep⟩ | ⟨a, rest, -, hstep⟩ | ⟨rest, -, hstep⟩ | ⟨rest, -, hstep⟩ := step_cases s
  · exact hstep ▸ engineStep_answers s
  · exact ⟨_, hstep⟩
  · exact hstep ▸ engineStep_answers _
  · exact ⟨_, hstep⟩

/-- The engine's step for a word that decodes is what its command does (R192). -/
theorem engineStep_of_decode_ok {s : State} {l : InFlight} {i : Instr} (hl : s.inflight = some l)
    (hi : decode l.cmd = .ok i) : engineStep s = exec i s := by
  simp only [engineStep, hl, hi]

/-- Settles O5: both steps are the engine's, and taking the turn leaves the latch. -/
theorem stepRunsTheCommandInFlight : Obligations.StepRunsTheCommandInFlight := by
  intro s l i hl hi
  constructor
  · intro rest hturn
    rw [step_engine hturn]
    exact engineStep_of_decode_ok hl hi
  · intro hnil
    rw [step_of_schedule_nil hnil]
    exact engineStep_of_decode_ok hl hi

/-! ### A write of CMD -/

/-- The step of a host write at offset 0x00C presents the value to CMD (R16, R21). -/
theorem step_host_writeCmd {s : State} {v : Word} {rest : List Turn}
    (hturn : s.schedule = .host (.write 32 0x00C v) :: rest) :
    step s = .next (State.writeCmd { s with schedule := rest } v) :=
  step_host_write hturn (by decide)

/-- A word written to CMD while BUSY is 0 is accepted, whatever it is (R190). -/
theorem writeCmd_of_idle {s : State} (hidle : s.inflight = none) (v : Word) : s.writeCmd v = s.accept v := by
  rw [writeCmd_eq, hidle]
  rfl

/-- A word written to CMD while BUSY is 1 is discarded, with the BUSY error (R191). -/
theorem writeCmd_of_busy {s : State} (hbusy : s.inflight ≠ none) (v : Word) : s.writeCmd v = s.raise .busy := by
  rw [writeCmd_eq, if_pos (Option.isSome_iff_ne_none.mpr hbusy)]

/-- Settles O16: the step is the acceptance, and the snapshot copies the input registers. -/
theorem commandIsAccepted : Obligations.CommandIsAccepted := by
  intro s v rest hidle hturn
  rw [step_host_writeCmd hturn, writeCmd_of_idle (s := { s with schedule := rest }) hidle]
  rfl

/-- Settles O17: the step is the error entry. -/
theorem commandIsRejectedWhileBusy : Obligations.CommandIsRejectedWhileBusy := by
  intro s v rest hbusy hturn
  rw [step_host_writeCmd hturn, writeCmd_of_busy (s := { s with schedule := rest }) hbusy]
  rfl

/-! ### The system commands -/

/-- A command that takes no argument, no field of it violating R74, completes with what it writes. -/
theorem complete_of_not_reserved {f : Args} {s : State} {l : InFlight} (hl : s.inflight = some l)
    (hreserved : ¬ (f.rsv ≠ 0 ∨ f.a ≠ 0 ∨ f.b ≠ 0 ∨ f.c ≠ 0)) (write : Snapshot → State) :
    complete s (fun p => if f.rsvdAll then .error .rsvd else .ok (write p)) =
      .next { write l.snap with done := true, inflight := none } := by
  simp only [not_or, not_not] at hreserved
  obtain ⟨hrsv, ha, hb, hc⟩ := hreserved
  exact complete_of_fieldsClear hl hrsv ha hb hc write

/-- Settles O36: NOP is the completion that writes back the state as it is. -/
theorem nopOnlyCompletes : Obligations.NopOnlyCompletes := fun _ s _ hl hreserved =>
  complete_of_not_reserved hl hreserved fun _ => s

/-- The completion of SRST with its fields 0: the reset values, with DONE (R194). -/
theorem exec_srst_of_legal {f : Args} {s : State} {l : InFlight} (hl : s.inflight = some l)
    (hreserved : ¬ reservedViolated (.srst f)) : exec (.srst f) s = .next { s.resetRegisters with done := true } :=
  complete_of_not_reserved hl hreserved fun _ => s.resetRegisters

/-- STATUS of the reset values with DONE set or not: DONE in bit 1, every other flag 0 (R19, R36). -/
theorem readReg_status_resetRegisters (s : State) (done : Bool) :
    State.readReg { s.resetRegisters with done := done } .status = if done then 2 else 0 := by
  cases done <;> simp [State.readReg, State.statusWord, State.busy, ErrCode.code]

/-- After a reset every register but ID reads 0 (R36). -/
theorem readReg_resetRegisters (s : State) {r : Reg} (hid : r ≠ .id) : s.resetRegisters.readReg r = 0 := by
  cases r with
  | id => exact absurd rfl hid
  | din i | dout i | key i | pin i | pout i | ptab i | aw i => exact Vector.getElem_replicate i.isLt
  | drkHi i | drkLo i => simp [State.readReg]
  | ctrl => simp [State.readReg, State.ctrlWord]
  | status => exact readReg_status_resetRegisters s false
  | _ => rfl

/-- Settles O37: DONE is all that SRST adds to the reset values, and only STATUS shows it. -/
theorem srstResetsAndSetsDone : Obligations.SrstResetsAndSetsDone := by
  intro f s l hl hreserved
  refine ⟨_, exec_srst_of_legal hl hreserved, rfl, rfl, rfl, readReg_status_resetRegisters s true,
    fun r hid hstatus => ?_, rfl, rfl, rfl⟩
  rw [readReg_congr s.resetRegisters _ r hstatus (by simp only [and_self])]
  exact readReg_resetRegisters s hid

end Sys2Proof.Machine

namespace Sys2Proof.Machine

/-! ### The idle engine -/

/-- With no command in flight the engine's step is the state itself (R214). -/
theorem engineStep_of_idle {s : State} (hidle : s.inflight = none) : engineStep s = .next s := by
  simp only [engineStep, hidle]

/-- Settles O7: both steps are the engine's, and taking the turn leaves the latch empty. -/
theorem idleEngineKeepsEveryRegister : Obligations.IdleEngineKeepsEveryRegister := by
  intro s hidle
  constructor
  · intro hnil
    rw [step_of_schedule_nil hnil]
    exact engineStep_of_idle hidle
  · intro rest hturn
    rw [step_engine hturn]
    exact engineStep_of_idle hidle

/-! ### A command that ends with an error -/

/-- Settles O30: of the ways in which a command can complete, only the error leaves DONE as it was. -/
theorem failedCommandWritesOnlyStatus : Obligations.FailedCommandWritesOnlyStatus := by
  intro i s t hexec
  obtain ⟨l, -, hcompletion⟩ := exec_completion hexec
  cases hcompletion with
  | failed _ code hcode => exact .inr ⟨code, hcode, rfl⟩
  | srst | desKs | aesKs | result => exact .inl rfl

/-- DES_ENC or DES_DEC with legal fields and no key schedule (R122, R123). -/
theorem desCipher_of_keyMissing {f : Args} {s : State} {l : InFlight} (hl : s.inflight = some l)
    (hreserved : ¬ (f.rsv ≠ 0 ∨ f.b ≠ 0 ∨ f.c ≠ 0)) (ha : f.a = 8) (hdkv : s.dkv = false) (keys : List RoundKey) :
    desCipher f s keys = .next (failedWith s .noKey) := by
  have hlength : ¬ (f.a != Config.desBytes) = true := by simp [ha, Config.desBytes]
  have hkey : (!s.dkv) = true := by simp [hdkv]
  refine complete_of_error hl ?_
  rw [if_neg (mt (rsvdButA_iff f).mp hreserved), if_neg hlength, if_pos hkey]

/-- AES_ENC or AES_DEC with legal fields and no key schedule (R176, R177). -/
theorem aesCipher_of_keyMissing {f : Args} {s : State} {l : InFlight} (hl : s.inflight = some l)
    (hreserved : ¬ (f.rsv ≠ 0 ∨ f.b ≠ 0 ∨ f.c ≠ 0)) (ha : f.a = 16) (hakv : s.akv = false)
    (transform : Vector Word 4 → Vector Word 4) : aesCipher f s transform = .next (failedWith s .noKey) := by
  have hlength : ¬ (f.a != Config.aesBlockBytes) = true := by simp [ha, Config.aesBlockBytes]
  have hkey : (!s.akv) = true := by simp [hakv]
  refine complete_of_error hl ?_
  rw [if_neg (mt (rsvdButA_iff f).mp hreserved), if_neg hlength, if_pos hkey]

/-- AES_ARK without a key schedule, whatever its round index (R181). -/
theorem exec_aesArk_of_keyMissing {f : Args} {s : State} {l : InFlight} (hl : s.inflight = some l)
    (hreserved : ¬ reservedViolated (.aesArk f)) (hakv : s.akv = false) :
    exec (.aesArk f) s = .next (failedWith s .noKey) := by
  have hkey : (!s.akv) = true := by simp [hakv]
  rw [exec, execAesArk]
  refine complete_of_error hl ?_
  rw [if_neg (mt (rsvdButB_iff f).mp hreserved), if_pos hkey]

/-- Settles O33: the five commands that use a key schedule are the two ciphers and AES_ARK. -/
theorem missingKeyComesThird : Obligations.MissingKeyComesThird := by
  intro i s l hl hreserved hlength hkey
  cases i with
  | desEnc f | desDec f =>
    have ha : f.a = 8 := by simpa [lengthError] using hlength
    exact desCipher_of_keyMissing hl hreserved ha hkey _
  | aesEnc f | aesDec f =>
    have ha : f.a = 16 := by simpa [lengthError] using hlength
    exact aesCipher_of_keyMissing hl hreserved ha hkey _
  | aesArk f => exact exec_aesArk_of_keyMissing hl hreserved hkey
  | _ => exact False.elim hkey

/-! ### The interrupt line -/

/-- The interrupt line over the bits of CTRL and STATUS as they read (R205). -/
theorem irq_eq_readReg (s : State) : s.irq = (((s.readReg .ctrl).getLsbD 0 && (s.readReg .status).getLsbD 1) ||
    ((s.readReg .ctrl).getLsbD 1 && (s.readReg .status).getLsbD 2)) := by
  obtain ⟨hdoneIe, herrIe, -⟩ := ctrlWord_fields s
  obtain ⟨-, hdone, herr, -⟩ := statusWord_bits s
  simp only [State.readReg, hdoneIe, herrIe, hdone, herr, State.irq]

/-- A write of STATUS lowers the line by the flags it clears (R20, R204). -/
theorem writeStatus_irq (s : State) (v : Word) : (s.writeStatus v).irq =
    ((s.doneIe && s.done && !v.getLsbD 1) || (s.errIe && s.err && !v.getLsbD 2)) := by
  simp [State.irq, Bool.and_assoc]

/-- Acceptance of a command lowers the line: it clears both flags (R190). -/
theorem accept_irq (s : State) (v : Word) : (s.accept v).irq = false := by
  simp [State.irq]

/-- An error that ends a command raises the line under ERR_IE, and leaves what DONE contributes (R203). -/
theorem failedWith_irq (s : State) (code : ErrCode) :
    (failedWith s code).irq = ((s.doneIe && s.done) || s.errIe) := by
  simp [State.irq, failedWith]

/-- An error with DONE 0, as R19 has it for a command in flight: it stays 0, and the line follows ERR_IE. -/
theorem failedWith_irq_of_not_done {s : State} (hdone : s.done = false) (code : ErrCode) :
    (failedWith s code).done = false ∧ (failedWith s code).irq = s.errIe :=
  ⟨hdone, by simp [failedWith_irq, hdone]⟩

/-- The line after a command other than SRST, which writes neither enable: DONE_IE decides after a success, where
an earlier error stays, and ERR_IE after an error (R192, R201). -/
theorem completion_irq {s t : State} {l : InFlight} {i : Instr} (hi : ∀ f, i ≠ .srst f) (hdone : s.done = false)
    (ht : Completion s l i t) : t.irq = if t.done then s.doneIe || (s.errIe && s.err) else s.errIe := by
  cases ht with
  | failed _ code _ =>
    obtain ⟨hdone', hirq⟩ := failedWith_irq_of_not_done hdone code
    simp [hdone', hirq]
  | srst f => exact absurd rfl (hi f)
  | desKs | aesKs | result => simp [State.irq]

/-- SRST ends with RSVD or with the reset values and DONE (R74, R194). -/
theorem exec_srst_cases {f : Args} {s t : State} (h : exec (.srst f) s = .next t) :
    t = failedWith s .rsvd ∨ t = { s.resetRegisters with done := true } := by
  obtain ⟨l, hl, -⟩ := exec_completion h
  by_cases hreserved : reservedViolated (.srst f)
  · rw [reservedFieldsEndWithRsvd _ s l hl hreserved] at h
    exact .inl (Host.Outcome.next.inj h).symm
  · rw [exec_srst_of_legal hl hreserved] at h
    exact .inr (Host.Outcome.next.inj h).symm

/-- The line after SRST: low where it succeeds, for it clears both enables (R194). -/
theorem exec_srst_irq {f : Args} {s t : State} (hdone : s.done = false) (h : exec (.srst f) s = .next t) :
    t.irq = if t.done then false else s.errIe := by
  obtain rfl | rfl := exec_srst_cases h
  · obtain ⟨hdone', hirq⟩ := failedWith_irq_of_not_done hdone .rsvd
    simp [hdone', hirq]
  · simp [State.irq]

/-- Settles O21: the flags after each access and after each way in which a command can complete. -/
theorem interruptLineFollowsFlags : Obligations.InterruptLineFollowsFlags := by
  refine ⟨irq_eq_readReg, ?status, ?ctrl, ?accept, ?command, fun _ _ _ => exec_srst_irq⟩
  case status => exact fun s v rest hturn => ⟨_, step_host_write hturn (by decide), writeStatus_irq _ v⟩
  case ctrl => exact fun s v rest hturn => ⟨_, step_host_write hturn (by decide), rfl⟩
  case accept =>
    intro s v rest hidle hturn
    refine ⟨_, step_host_writeCmd hturn, ?_⟩
    rw [writeCmd_of_idle (s := { s with schedule := rest }) hidle]
    exact accept_irq _ v
  case command =>
    intro i s t hi hdone hexec
    obtain ⟨l, -, hcompletion⟩ := exec_completion hexec
    exact completion_irq hi hdone hcompletion

end Sys2Proof.Machine

namespace Sys2Proof.Machine

/-! ### The hardware reset -/

/-- A step on a turn of the reset input puts every register at its reset value (R230). -/
theorem step_reset {s : State} {rest : List Turn} (hturn : s.schedule = .reset :: rest) :
    step s = .next (State.resetRegisters { s with schedule := rest }) := by
  simp only [step, hturn, takeTurn, State.hardwareReset]

/-- What the host sees after a reset: the engine idle, its line low, and no register but ID other than 0
(R36, R205). -/
theorem resetRegisters_visible (s : State) :
    s.resetRegisters.inflight = none ∧ s.resetRegisters.irq = false ∧ s.resetRegisters.readReg .id = 0x41573131 ∧
      ∀ r, r ≠ .id → s.resetRegisters.readReg r = 0 :=
  ⟨rfl, rfl, rfl, fun _ hid => readReg_resetRegisters s hid⟩

/-- The state right after reset is its own reset (R36). -/
theorem resetRegisters_reset : State.reset.resetRegisters = State.reset := rfl

/-- Settles O19: both are states whose registers have been reset. -/
theorem resetRestoresEverything : Obligations.ResetRestoresEverything := by
  constructor
  · intro s rest hturn
    obtain ⟨hinflight, hirq, hid, hzero⟩ := resetRegisters_visible { s with schedule := rest }
    exact ⟨_, step_reset hturn, hinflight, hirq, hid, hzero, rfl, rfl, rfl⟩
  · exact resetRegisters_reset ▸ resetRegisters_visible State.reset

/-! ### The command in flight ends -/

/-- Some run of at most `n` steps from `s` leaves the latch empty, and the latch holds `l` in every state before
its last (R32, R236). -/
def EndsWithin (l : InFlight) (n : Nat) (s : State) : Prop :=
  ∃ k t, k ≤ n ∧ Sys2Proof.core.run k s = .next t ∧ t.inflight = none ∧
    ∀ j u, j < k → Sys2Proof.core.run j s = .next u → u.inflight = some l

/-- With the latch empty the command has ended. -/
theorem EndsWithin.of_idle {l : InFlight} {n : Nat} {s : State} (hidle : s.inflight = none) : EndsWithin l n s :=
  ⟨0, s, Nat.zero_le n, rfl, hidle, fun j _ hj => absurd hj j.not_lt_zero⟩

/-- One step more, with the command in flight before it. -/
theorem EndsWithin.of_step {l : InFlight} {n : Nat} {s t : State} (hl : s.inflight = some l)
    (hstep : step s = .next t) (h : EndsWithin l n t) : EndsWithin l (n + 1) s := by
  obtain ⟨k, v, hk, hrun, hidle, hbefore⟩ := h
  have hrun_succ := run_succ_of_step (M := Sys2Proof.core) hstep
  refine ⟨k + 1, v, Nat.succ_le_succ hk, (hrun_succ k).trans hrun, hidle, fun j u hj hu => ?_⟩
  cases j with
  | zero =>
    obtain rfl : s = u := Host.Outcome.next.inj hu
    exact hl
  | succ j => exact hbefore j u (Nat.lt_of_succ_lt_succ hj) ((hrun_succ j).symm.trans hu)

/-- The engine's step ends the command in flight, with an error or with what it writes (R192). -/
theorem engineStep_ends {s : State} {l : InFlight} (hl : s.inflight = some l) :
    ∃ t, engineStep s = .next t ∧ t.inflight = none := by
  cases hdecode : decode l.cmd with
  | error e => exact ⟨_, engineStep_of_decode_error hl hdecode, rfl⟩
  | ok i => exact engineStep_of_decode_ok hl hdecode ▸ exec_of_inflight i s l hl

/-- Every turn takes one step: the host's keeps the command, the engine's and the reset end it, and with no turn
left the step is the engine's (R62, R230, R236). -/
theorem endsWithin_of_schedule {l : InFlight} (turns : List Turn) {s : State} (hl : s.inflight = some l)
    (hturns : s.schedule = turns) : EndsWithin l (turns.length + 1) s := by
  induction turns generalizing s with
  | nil =>
    obtain ⟨t, hstep, hidle⟩ := engineStep_ends hl
    exact .of_step hl ((step_of_schedule_nil hturns).trans hstep) (.of_idle hidle)
  | cons turn rest ih =>
    cases turn with
    | host a =>
      obtain ⟨t, hstep, hkept, hrest⟩ := step_host_inFlightKept hl hturns
      exact .of_step hl hstep (ih hkept.inflight hrest)
    | engine =>
      obtain ⟨t, hstep, hidle⟩ := engineStep_ends (s := { s with schedule := rest }) hl
      exact .of_step hl ((step_engine hturns).trans hstep) (.of_idle hidle)
    | reset => exact .of_step hl (step_reset hturns) (.of_idle rfl)

/-- Settles O23: each turn of the schedule takes a step, and the engine's step after the last ends the command. -/
theorem commandInFlightEnds : Obligations.CommandInFlightEnds :=
  fun s _ hl => endsWithin_of_schedule s.schedule hl rfl

end Sys2Proof.Machine
